-- ==== Sys2Proof/Word.lean ====
section
/-! DEFINITION. The widths of the block's values (spec/00_scope.md R8, R9; spec/10_state.md; spec/30_encoding.md R106,
R110). Everything is unsigned (R9); a bit vector stands only where the spec gives a width. -/

namespace Sys2Proof

/-- One octet of a payload or of a serialized frame. -/
abbrev Byte := BitVec 8

/-- An event word, 32 bits, bit 31 most significant (R90). -/
abbrev EventWord := BitVec 32

/-- `HANDLE_W = 8` (R8, D2). -/
abbrev Handle := BitVec 8

/-- A sequence number (R28, R106). -/
abbrev SeqNo := BitVec 8

/-- A PAN identifier (R37, R106). -/
abbrev Pan := BitVec 16

/-- A short address (R37). -/
abbrev ShortAddr := BitVec 16

/-- An address field of 64 bits, a short address zero-extended (R35, R106, R110). -/
abbrev Addr := BitVec 64

/-- `ENERGY_W = 32` (R8, D34). -/
abbrev Energy := BitVec 32

/-- `DUR_W = 32` (R8, D34). -/
abbrev Duration := BitVec 32

/-- `DELAY_W = 32` (R8, D34). -/
abbrev Delay := BitVec 32

/-- The link-quality estimate (R94). -/
abbrev Lqi := BitVec 8

/-- A group number (R107). -/
abbrev Group := BitVec 8

end Sys2Proof
end

