-- ==== Sys2Proof/Syntax.lean ====
section
/-! DEFINITION. The ten input events as syntax, one constructor per row of spec/opcode_table.json
(spec/30_encoding.md R90 to R99). -/

namespace Sys2Proof

/-- Purpose tag, R97: codes 0 to 5 in this order, 6 unused, 7 `None` ("a frame with no tag attached"). -/
inductive Tag where
  | data
  | ack
  | rfe
  | cfe
  | cfeAck
  | energy
  | unused
  | untagged
  deriving DecidableEq, Repr, Inhabited

/-- Addressing mode, R98: codes 0 to 3 in this order. -/
inductive AddrMode where
  | noAddress
  | reserved
  | short
  | extended
  deriving DecidableEq, Repr, Inhabited

/-- The option bits of format S, R92: bit 14 `ACK`, bit 15 `GTS`, bit 16 `INDIRECT`. -/
structure TxOpt where
  ack : Bool
  gts : Bool
  indirect : Bool
  deriving DecidableEq, Repr, Inhabited

/-- An input event's word (R91). Wide operands are in the mailbox (R110). -/
inductive Instr where
  /-- SUBMIT, format S (R92); `low` is bits 9:0, which should be zero. -/
  | submit (handle : Handle) (tag : Tag) (txopt : TxOpt) (srcMode dstMode : AddrMode) (low : BitVec 10)
  /-- CCA_CONF, format C (R93). -/
  | ccaConf (code : BitVec 3)
  /-- TRX_CONF, format C (R93). -/
  | trxConf (code : BitVec 3)
  /-- TX_CONF, format C (R93). -/
  | txConf (code : BitVec 3)
  /-- RX_FRAME, format F (R94). -/
  | rxFrame (inj : Bool) (lqi : Lqi)
  /-- ENERGY_SAMPLE, format C (R93): the code is the slot. -/
  | energySample (slot : BitVec 3)
  /-- ACKWAIT_FIRE, format N (R95). -/
  | ackwaitFire
  /-- SCE_FIRE, format N (R95). -/
  | sceFire
  /-- HSWAIT_FIRE, format N (R95). -/
  | hswaitFire
  /-- CFG_WRITE, format G (R96). -/
  | cfgWrite (reg : BitVec 4)
  deriving DecidableEq, Repr

end Sys2Proof
end

