-- ==== Sys2Proof/WellFormed.lean ====
section
/-! DEFINITION. Which events are legal: the `code` values of format C that spec/30_encoding.md R93 does not call
illegal. Every other operand is legal at every value (R92, R94, R95, R99). -/

namespace Sys2Proof

/-- R93: CCA_CONF 0 and 1; TRX_CONF 0 to 3; ENERGY_SAMPLE 0 to 3; TX_CONF every code. -/
def Instr.wellFormed : Instr → Bool
  | .submit _ _ _ _ _ _ => true
  | .ccaConf code => decide (code < 2#3)
  | .trxConf code => decide (code < 4#3)
  | .txConf _ => true
  | .rxFrame _ _ => true
  | .energySample slot => decide (slot < 4#3)
  | .ackwaitFire => true
  | .sceFire => true
  | .hswaitFire => true
  | .cfgWrite _ => true

end Sys2Proof
end

