-- ==== Sys2Proof/Decode.lean ====
section
/-! DEFINITION. Decoding and encoding of event words (spec/30_encoding.md R90 to R99, R105), and the textual form of
R111 as data. -/

namespace Sys2Proof

/-- Why a word is illegal (R105). -/
inductive DecodeError where
  /-- `OP` is 0x0 or 0xB to 0xF. -/
  | reservedOpcode
  /-- a must-be-zero bit of formats C, F, N or G is set. -/
  | mustBeZero
  /-- a `code` of format C that R93 calls illegal. -/
  | illegalCode
  deriving DecidableEq, Repr

/-- What decoding a word gives. -/
inductive Decoded where
  | event (i : Instr)
  | illegal (why : DecodeError)
  deriving DecidableEq, Repr

/-- R97. -/
def Tag.ofBits (b : BitVec 3) : Tag :=
  match b.toNat with
  | 0 => .data
  | 1 => .ack
  | 2 => .rfe
  | 3 => .cfe
  | 4 => .cfeAck
  | 5 => .energy
  | 6 => .unused
  | _ => .untagged

/-- R97. -/
def Tag.bits : Tag → BitVec 3
  | .data => 0#3
  | .ack => 1#3
  | .rfe => 2#3
  | .cfe => 3#3
  | .cfeAck => 4#3
  | .energy => 5#3
  | .unused => 6#3
  | .untagged => 7#3

/-- R98. -/
def AddrMode.ofBits (b : BitVec 2) : AddrMode :=
  match b.toNat with
  | 0 => .noAddress
  | 1 => .reserved
  | 2 => .short
  | _ => .extended

/-- R98. -/
def AddrMode.bits : AddrMode → BitVec 2
  | .noAddress => 0#2
  | .reserved => 1#2
  | .short => 2#2
  | .extended => 3#2

/-- R92: bit 16 INDIRECT, bit 15 GTS, bit 14 ACK. -/
def TxOpt.ofBits (b : BitVec 3) : TxOpt :=
  { ack := b.getLsbD 0, gts := b.getLsbD 1, indirect := b.getLsbD 2 }

/-- R92. -/
def TxOpt.bits (o : TxOpt) : BitVec 3 :=
  BitVec.ofBool o.indirect ++ BitVec.ofBool o.gts ++ BitVec.ofBool o.ack

/-- `w[lo + len - 1 : lo]` (R9). -/
def slice (w : EventWord) (lo len : Nat) : BitVec len := w.extractLsb' lo len

/-- Format C (R93): bits 27:3 zero, bits 2:0 `code`, which R93 may call illegal. -/
def decodeFormatC (mk : BitVec 3 → Instr) (w : EventWord) : Decoded :=
  if slice w 3 25 = 0#25 then
    if (mk (slice w 0 3)).wellFormed then .event (mk (slice w 0 3)) else .illegal .illegalCode
  else .illegal .mustBeZero

/-- Format N (R95): bits 27:0 zero. -/
def decodeFormatN (i : Instr) (w : EventWord) : Decoded :=
  if slice w 0 28 = 0#28 then .event i else .illegal .mustBeZero

/-- Format F (R94): bits 27:9 zero, bit 8 `inj`, bits 7:0 `lqi`. -/
def decodeFormatF (w : EventWord) : Decoded :=
  if slice w 9 19 = 0#19 then .event (.rxFrame (w.getLsbD 8) (slice w 0 8)) else .illegal .mustBeZero

/-- Format G (R96): bits 27:24 `reg`, bits 23:0 zero. -/
def decodeFormatG (w : EventWord) : Decoded :=
  if slice w 0 24 = 0#24 then .event (.cfgWrite (slice w 24 4)) else .illegal .mustBeZero

/-- Format S (R92): every word with `OP` 0x1 is a SUBMIT. -/
def decodeFormatS (w : EventWord) : Decoded :=
  .event (.submit (slice w 20 8) (Tag.ofBits (slice w 17 3)) (TxOpt.ofBits (slice w 14 3))
    (AddrMode.ofBits (slice w 12 2)) (AddrMode.ofBits (slice w 10 2)) (slice w 0 10))

/-- The opcode map (R91), on bits 31:28. -/
def decode (w : EventWord) : Decoded :=
  match (slice w 28 4).toNat with
  | 0x1 => decodeFormatS w
  | 0x2 => decodeFormatC .ccaConf w
  | 0x3 => decodeFormatC .trxConf w
  | 0x4 => decodeFormatC .txConf w
  | 0x5 => decodeFormatF w
  | 0x6 => decodeFormatC .energySample w
  | 0x7 => decodeFormatN .ackwaitFire w
  | 0x8 => decodeFormatN .sceFire w
  | 0x9 => decodeFormatN .hswaitFire w
  | 0xA => decodeFormatG w
  | _ => .illegal .reservedOpcode

/-- The event word of an event (R91 to R96). -/
def encode : Instr → EventWord
  | .submit handle tag txopt srcMode dstMode low =>
      0x1#4 ++ handle ++ tag.bits ++ txopt.bits ++ srcMode.bits ++ dstMode.bits ++ low
  | .ccaConf code => 0x2#4 ++ 0#25 ++ code
  | .trxConf code => 0x3#4 ++ 0#25 ++ code
  | .txConf code => 0x4#4 ++ 0#25 ++ code
  | .rxFrame inj lqi => 0x5#4 ++ 0#19 ++ BitVec.ofBool inj ++ lqi
  | .energySample slot => 0x6#4 ++ 0#25 ++ slot
  | .ackwaitFire => 0x7#4 ++ 0#28
  | .sceFire => 0x8#4 ++ 0#28
  | .hswaitFire => 0x9#4 ++ 0#28
  | .cfgWrite reg => 0xA#4 ++ reg ++ 0#24

/-- The instruction read from an opcode-table word of `nbits` bits (bits above `nbits` are 0). -/
def decodeTableWord (nbits w : Nat) : Option Instr :=
  match decode (BitVec.ofNat 32 (w % 2 ^ nbits)) with
  | .event i => some i
  | .illegal _ => none

/-- The mnemonic of an event (R91, R111). -/
def Instr.mnemonic : Instr → String
  | .submit _ _ _ _ _ _ => "SUBMIT"
  | .ccaConf _ => "CCA_CONF"
  | .trxConf _ => "TRX_CONF"
  | .txConf _ => "TX_CONF"
  | .rxFrame _ _ => "RX_FRAME"
  | .energySample _ => "ENERGY_SAMPLE"
  | .ackwaitFire => "ACKWAIT_FIRE"
  | .sceFire => "SCE_FIRE"
  | .hswaitFire => "HSWAIT_FIRE"
  | .cfgWrite _ => "CFG_WRITE"

/-- The `field=value` pairs of the event word in the textual form of R111, values as numbers (R92 to R96). -/
def Instr.wordFields : Instr → List (String × Nat)
  | .submit handle tag txopt srcMode dstMode low =>
      [("handle", handle.toNat), ("tag", tag.bits.toNat), ("txopt", txopt.bits.toNat),
        ("src_mode", srcMode.bits.toNat), ("dst_mode", dstMode.bits.toNat), ("zero", low.toNat)]
  | .ccaConf code => [("code", code.toNat)]
  | .trxConf code => [("code", code.toNat)]
  | .txConf code => [("code", code.toNat)]
  | .rxFrame inj lqi => [("lqi", lqi.toNat), ("inj", inj.toNat)]
  | .energySample slot => [("slot", slot.toNat)]
  | .ackwaitFire => []
  | .sceFire => []
  | .hswaitFire => []
  | .cfgWrite reg => [("reg", reg.toNat)]

end Sys2Proof
end

