-- ==== Sys2Proof/Config.lean ====
section
/-! DEFINITION. What is fixed at construction: the parameters of spec/00_scope.md R8, the Codec contract of R12 with the
views of spec/30_encoding.md R106 and R107, and the free values of the model (constants without a body). -/

namespace Sys2Proof

/-- `ROLE` (spec/10_state.md R38). -/
inductive Role where
  | sensor
  | energyDonor
  deriving DecidableEq, Repr, Inhabited

/-- `ftype` of the header view (R106): codes 0 to 3, and 4 to 7 reserved (`code` is the type less 4). -/
inductive FrameType where
  | beacon
  | data
  | ack
  | command
  | reserved (code : Fin 4)
  deriving DecidableEq, Repr, Inhabited

/-- The header view, the result of `Codec.parse` (R106). -/
structure Header where
  ftype : FrameType
  version : BitVec 2
  ackreq : Bool
  seq : SeqNo
  dstMode : AddrMode
  dstPanPresent : Bool
  dstPan : Pan
  dstAddr : Addr
  srcMode : AddrMode
  srcPan : Pan
  srcAddr : Addr
  deriving DecidableEq, Repr, Inhabited

/-- The metadata view, the result of `Codec.meta` (R107). -/
structure Metadata where
  tag : Tag
  duration : Duration
  group : Group
  deriving DecidableEq, Repr, Inhabited

/-- A frame (R70, R12): a byte string with what the Codec reads from it. The block copies a frame whole and looks at it
only through the three views (log 2, DESIGN CHOICE, safe). -/
structure Frame where
  bytes : List Byte
  fcsOk : Bool
  header : Header
  metadata : Metadata
  deriving DecidableEq, Repr, Inhabited

/-- The block's identity as the builders see it (R146, R246). -/
structure SourceId where
  short : ShortAddr
  ext : Addr
  pan : Pan
  deriving DecidableEq, Repr, Inhabited

/-- `SubmitParams`, the record R146 hands to `Codec.serialize`. -/
structure SubmitParams where
  srcMode : AddrMode
  dstMode : AddrMode
  dstPan : Pan
  dstAddr : Addr
  ackEff : Bool
  src : SourceId
  metadata : Metadata
  deriving DecidableEq, Repr, Inhabited

/-- The operands of `Codec.build_hs` but for the sequence number (R12, R246). -/
structure HsParams where
  tag : Tag
  dstPan : Pan
  dstMode : AddrMode
  dstAddr : Addr
  src : SourceId
  metadata : Metadata
  deriving DecidableEq, Repr, Inhabited

/-- Where a frame comes from (spec/10_state.md R29): `UPSTREAM` a submission, `INTERNAL` a handshake frame, `ACKGEN` a generated ACK. -/
inductive Origin where
  | upstream
  | internal
  | ackgen
  deriving DecidableEq, Repr, Inhabited

/-- An OutboundFrame, the record of spec/10_state.md R32. -/
structure OutFrame where
  frame : Frame
  handle : Handle
  tag : Tag
  ackreq : Bool
  seq : SeqNo
  origin : Origin
  deriving DecidableEq, Repr, Inhabited

/-- The parameters of an instance (R8). Each is an argument of the model: a state holds one record, no step writes it,
and a statement over all states is a statement over all parameters (log 1). -/
structure Config where
  /-- `ROLE`. -/
  role : Role
  /-- `SHORT_ADDR0`. -/
  shortAddr0 : ShortAddr
  /-- `EXT_ADDR0`. -/
  extAddr0 : Addr
  /-- `PAN_ID0`. -/
  panId0 : Pan
  /-- `PROMISC0`. -/
  promisc0 : Bool
  /-- `MAX_FRAME_RETRIES`, a natural number (R8). -/
  maxFrameRetries : Nat
  /-- `T_UNIT_BACKOFF`. -/
  tUnitBackoff : Nat
  /-- `T_TURNAROUND`. -/
  tTurnaround : Nat
  /-- `T_PREAMBLE`. -/
  tPreamble : Nat
  /-- `T_SIX_OCTETS`. -/
  tSixOctets : Nat
  /-- `GROUP2_DELAY`. -/
  group2Delay : Delay
  /-- `REQUIRED_ENERGY` (log 13). -/
  requiredEnergy : Energy
  /-- `MAX_FRAME_LEN`, octets. -/
  maxFrameLen : Nat
  /-- `BCAST_PAN`. -/
  bcastPan : Pan
  /-- `BCAST_SHORT`. -/
  bcastShort : ShortAddr
  /-- `PAN_UNSET`. -/
  panUnset : Pan
  /-- `MAX_FRAME_VERSION`. -/
  maxFrameVersion : Nat
  /-- `TXQ_DEPTH`; `none` is unbounded (R8, D10). -/
  txqDepth : Option Nat
  /-- `DSN_INIT`. -/
  dsnInit : SeqNo
  /-- `HS_TIMEOUT_EN`. -/
  hsTimeoutEn : Bool
  /-- `T_HS_TIMEOUT`; no rule of the untimed model reads it (R321). -/
  tHsTimeout : Delay
  /-- `HS_INSERT_FRONT`. -/
  hsInsertFront : Bool
  /-- `CFEACK_DELAY`. -/
  cfeAckDelay : Delay
  /-- `DROP_EN`. -/
  dropEn : Bool
  /-- `InjApplies` (R182): the views it holds of; any predicate on the finite type of views is such a list (log 4). -/
  injOn : List (Header × Metadata)
  /-- `Codec.overhead` (R12): its values, with `overheadElse` for parameters not listed; any function on the finite type
  of parameters is such a table (log 4). -/
  overheadTable : List (SubmitParams × Nat)
  /-- `Codec.overhead` of the parameters `overheadTable` does not list. -/
  overheadElse : Nat
  deriving DecidableEq, Repr, Inhabited

/-- Free: the parameters the reset state was constructed with, before the one bound R8 states. -/
opaque Config.chosen : Config

/-- The parameters of the reset state: any record with `GROUP2_DELAY > 0` (R8; log 1). -/
def Config.installed : Config :=
  { Config.chosen with
    group2Delay := if Config.chosen.group2Delay = 0#32 then 1#32 else Config.chosen.group2Delay }

/-- Free: what `Codec.serialize` returns, before laws L1, L3 and L4. -/
opaque Codec.anySerialized : SubmitParams → SeqNo → List Byte → Frame

/-- Free: what `Codec.build_ack` returns, before laws L1 and L2. -/
opaque Codec.anyAck : SeqNo → Frame

/-- Free: what `Codec.build_hs` returns, before laws L1 and L4. -/
opaque Codec.anyHs : HsParams → SeqNo → Frame

/-- Free: what reading `TXQ.head` of an empty queue gives (R71 defines it "only when `TXQ.len > 0`"), drawn at the counter
`Machine.State.free` (log 10). -/
opaque Config.headOfEmpty : Nat → OutFrame

/-- Free: `ACKW.dur` when the sum of R167 does not fit in `DELAY_W` bits (log 14). -/
opaque Config.ackWaitUnfit : Nat → Delay

end Sys2Proof
end

