-- ==== Sys2Proof/Machine/State.lean ====
section
/-! DEFINITION. The state of the block (spec/10_state.md), its output actions (spec/30_encoding.md R100 to R104), the
reasons a step can stop, and the state after reset (spec/10_state.md R67, spec/70_reset_and_hazards.md R300). -/

namespace Sys2Proof.Machine

/-- `MS` (R21), codes 0 to 6 in this order. -/
inductive MacState where
  | idle
  | channelAccess
  | sending
  | ackPending
  | cfePending
  | cfeAckPending
  | energyPending
  deriving DecidableEq, Repr, Inhabited

/-- `SCE.action` (R41), codes 0 to 2 in this order. -/
inductive SceAction where
  | emitCfe
  | emitCfeAck
  | emitEnergy
  deriving DecidableEq, Repr, Inhabited

/-- A requestable transceiver state (R100), codes 0 to 2 in this order. -/
inductive TrxState where
  | trxOff
  | rxOn
  | txOn
  deriving DecidableEq, Repr, Inhabited

/-- Confirmation status (R101), codes 0 to 5 in this order. -/
inductive Status where
  | success
  | frameTooLong
  | invalidAddress
  | invalidParameter
  | channelAccessFailure
  | noAcknowledgment
  deriving DecidableEq, Repr, Inhabited

/-- The reason of a fatal desynchronisation (R273), codes 1 and 2 in this order. -/
inductive FatalReason where
  | trxState
  | txConf
  deriving DecidableEq, Repr, Inhabited

/-- A trace event with its arguments (R104). -/
inductive TraceEvent where
  | enq (handle : Handle)
  | reject (handle : Handle) (status : Status)
  | arbStart (ccaCnt : BitVec 16)
  | ccaFailDrop (handle : Handle)
  | txBegin (tag : Tag) (seq : SeqNo)
  | txDone (tag : Tag) (seq : SeqNo)
  | ackOk (seq : SeqNo)
  | retry (retryCnt : Nat)
  | noackDrop (handle : Handle)
  | rxFcsDrop
  | rxInjDrop
  | rxFilterDrop (step : Nat)
  | rxAckUnexpected (seq : SeqNo)
  | rxAckMismatch (seq : SeqNo)
  | rxViolation (tag : Tag)
  | ackSuppressed (seq : SeqNo)
  | hsSkippedForAck (tag : Tag)
  | rxBeacon
  | rxCommand
  | hsRfeDonor (group : Group)
  | hsRfeSensor
  | hsCfeRecorded
  | hsCfeAck (duration : Duration)
  | hsEnergySeen
  | hsSample (slot : BitVec 3) (energy : Energy)
  | hsDivZero
  | hsDone (energy : Energy)
  | hsEmit (tag : Tag)
  | hsQueueFull (tag : Tag)
  | hsTimeout
  | hsAborted (state : MacState)
  | staleEvent (op : BitVec 4)
  | badEvent (word : EventWord)
  | fatal (reason : FatalReason)
  | cfg (reg : BitVec 4)
  deriving DecidableEq, Repr

/-- The parameters of an `Indication` (R103). -/
structure IndicationParams where
  seq : SeqNo
  lqi : Lqi
  srcMode : AddrMode
  srcPan : Pan
  srcAddr : Addr
  dstMode : AddrMode
  dstPan : Pan
  dstAddr : Addr
  deriving DecidableEq, Repr, Inhabited

/-- An output action (R100), codes 0x0 to 0xA in this order. -/
inductive Action where
  | confirm (handle : Handle) (status : Status)
  | indication (params : IndicationParams) (frame : Frame)
  | energyIndication (energy : Energy)
  | trxRequest (state : TrxState)
  | txRequest (frame : Frame)
  | arbStart
  | arbCancel
  | faultReport (reason : FatalReason) (oldMs : MacState) (code : BitVec 3)
  | sniff (frame : Frame)
  | promiscSniff (frame : Frame)
  | trace (event : TraceEvent)
  deriving DecidableEq, Repr

/-- `IFF`, the in-flight slot (R29). -/
structure InFlight where
  valid : Bool
  frame : Frame
  tag : Tag
  ackreq : Bool
  seq : SeqNo
  handle : Handle
  origin : Origin
  inQueue : Bool
  deriving DecidableEq, Repr, Inhabited

/-- `HS`, the handshake context (R35). -/
structure HsContext where
  valid : Bool
  reqMode : AddrMode
  reqAddr : Addr
  reqPan : Pan
  group : Group
  annValid : Bool
  annMode : AddrMode
  annAddr : Addr
  annPan : Pan
  e1Valid : Bool
  e1 : Energy
  e2 : Energy
  duration : Duration
  deriving DecidableEq, Repr, Inhabited

/-- `ACKW`, the AckWaitTimer (R40). -/
structure AckWaitTimer where
  armed : Bool
  dur : Delay
  deriving DecidableEq, Repr, Inhabited

/-- `SCE`, the StateChangeEvent (R41). -/
structure StateChange where
  pending : Bool
  action : SceAction
  delay : Delay
  deriving DecidableEq, Repr, Inhabited

/-- `HSW`, the handshake-wait timer (R42). -/
structure HsWaitTimer where
  armed : Bool
  deriving DecidableEq, Repr, Inhabited

/-- The operand mailbox (R110): input registers the event source fills. -/
structure Mailbox where
  dstPan : Pan
  dstAddr : Addr
  payload : List Byte
  duration : Duration
  group : Group
  frame : Frame
  energy : Energy
  value : BitVec 32
  deriving DecidableEq, Repr, Inhabited

/-- One event as it is presented: its word and its mailbox (R90, R310). -/
structure PortEvent where
  word : EventWord
  mailbox : Mailbox
  deriving DecidableEq, Repr, Inhabited

/-- Everything the spec gives the block, and four fields of the model's own. -/
structure State where
  /-- The instance's parameters, `ROLE` among them (R8, R38, R39); no step writes them. -/
  cfg : Config
  /-- `MS` (R21, R22). -/
  ms : MacState
  /-- `FAULT` (R23). -/
  fault : Bool
  /-- `ARB_RUN` (R24). -/
  arbRun : Bool
  /-- `TX_ISSUED` (R25). -/
  txIssued : Bool
  /-- `RETRY_CNT` (R26): as wide as `0 .. MAX_FRAME_RETRIES` needs, so that it cannot wrap (R212; log 13). -/
  retryCnt : Nat
  /-- `CCA_CNT` (R27). -/
  ccaCnt : BitVec 16
  /-- `DSN` (R28). -/
  dsn : SeqNo
  /-- `IFF` (R29 to R31). -/
  iff : InFlight
  /-- `TXQ` (R32 to R34), oldest entry first. -/
  txq : List OutFrame
  /-- `HS` (R35, R36). -/
  hs : HsContext
  /-- `SHORT_ADDR` (R37). -/
  shortAddr : ShortAddr
  /-- `PAN_ID` (R37). -/
  panId : Pan
  /-- `EXT_ADDR_LO` (R37). -/
  extAddrLo : BitVec 32
  /-- `EXT_ADDR_HI` (R37). -/
  extAddrHi : BitVec 32
  /-- `PROMISC` (R37). -/
  promisc : Bool
  /-- `ACKW` (R40). -/
  ackw : AckWaitTimer
  /-- `SCE` (R41). -/
  sce : StateChange
  /-- `HSW` (R42). -/
  hsw : HsWaitTimer
  /-- The operand mailbox (R110). -/
  mailbox : Mailbox
  /-- The model's own: the events presented at the port and not yet consumed, in the order the environment imposes
  (R79, R80; log 5). -/
  pending : List PortEvent
  /-- The model's own: the output actions emitted since reset, oldest first (R7, R79; log 9). -/
  out : List Action
  /-- The model's own: the counter at which the free value of log 10 is drawn. -/
  free : Nat
  deriving DecidableEq, Repr, Inhabited

/-- Why the machine stops. -/
inductive Fault where
  /-- `FAULT = 1`: the block accepts no event until reset (R276). Raised by every event, and by a step with or without one.
  Safe: the spec says such a device is halted and never ends a run well. -/
  | halted
  deriving DecidableEq, Repr

/-- Why an event has no meaning. -/
inductive Refusal where
  /-- An event whose meaning is not written. Raised by no arm of this model. Safe: nothing is claimed of such an event. -/
  | notModelled (mnemonic : String)
  deriving DecidableEq, Repr

/-- The mailbox before any event was presented (log 17, DESIGN CHOICE, unsafe). -/
def Mailbox.reset : Mailbox :=
  { dstPan := 0#16, dstAddr := 0#64, payload := [], duration := 0#32, group := 0#8, frame := default, energy := 0#32,
    value := 0#32 }

/-- `IFF` after reset: `valid = 0`; the other fields are log 11's. -/
def InFlight.reset : InFlight :=
  { valid := false, frame := default, tag := .data, ackreq := false, seq := 0#8, handle := 0#8, origin := .upstream,
    inQueue := false }

/-- `HS` after reset: the three valid bits 0; the other fields are log 11's. -/
def HsContext.reset : HsContext :=
  { valid := false, reqMode := .noAddress, reqAddr := 0#64, reqPan := 0#16, group := 0#8, annValid := false,
    annMode := .noAddress, annAddr := 0#64, annPan := 0#16, e1Valid := false, e1 := 0#32, e2 := 0#32, duration := 0#32 }

/-- Reset of an instance with parameters `c` (R67, R300), with its one output `TrxRequest(RX_ON)`. -/
def State.resetWith (c : Config) : State :=
  { cfg := c
    ms := .idle
    fault := false
    arbRun := false
    txIssued := false
    retryCnt := 0
    ccaCnt := 0#16
    dsn := c.dsnInit
    iff := InFlight.reset
    txq := []
    hs := HsContext.reset
    shortAddr := c.shortAddr0
    panId := c.panId0
    extAddrLo := c.extAddr0.extractLsb' 0 32
    extAddrHi := c.extAddr0.extractLsb' 32 32
    promisc := c.promisc0
    ackw := { armed := false, dur := 0#32 }
    sce := { pending := false, action := .emitCfe, delay := 0#32 }
    hsw := { armed := false }
    mailbox := Mailbox.reset
    pending := []
    out := [.trxRequest .rxOn]
    free := 0 }

/-- The machine right after reset: every parameter is free (log 1). -/
def State.reset : State := State.resetWith Config.installed

end Sys2Proof.Machine
end

