-- ==== Sys2Proof/Machine/Operands.lean ====
section
/-! DEFINITION. Operand forms: the meanings of the code fields of format C (spec/30_encoding.md R93), the parameters a
submission is made of (spec/41_submit_queue.md R145, R146), the Codec functions (spec/00_scope.md R12), the codes of
everything that leaves the block (spec/30_encoding.md R100 to R104), and the textual form of R111. -/

namespace Sys2Proof.Machine

/-- The Arbiter's result (R93). -/
inductive CcaResult where
  | channelIdle
  | channelAccessFailure
  deriving DecidableEq, Repr

/-- A transceiver-state confirmation (R93). -/
inductive TrxConfirmation where
  | trxOff
  | rxOn
  | txOn
  | success
  deriving DecidableEq, Repr

/-- CCA_CONF (R93): 2 to 7 illegal. -/
def CcaResult.ofCode (code : BitVec 3) : Option CcaResult :=
  match code.toNat with
  | 0 => some .channelIdle
  | 1 => some .channelAccessFailure
  | _ => none

/-- TRX_CONF (R93): 4 to 7 illegal. -/
def TrxConfirmation.ofCode (code : BitVec 3) : Option TrxConfirmation :=
  match code.toNat with
  | 0 => some .trxOff
  | 1 => some .rxOn
  | 2 => some .txOn
  | 3 => some .success
  | _ => none

/-- The extended address `EXT_ADDR_HI ++ EXT_ADDR_LO` (R189). -/
def State.extAddr (s : State) : Addr := s.extAddrHi ++ s.extAddrLo

/-- The identity the builders are given (R146, R246). -/
def State.sourceId (s : State) : SourceId := { short := s.shortAddr, ext := s.extAddr, pan := s.panId }

/-- R145: `bcast`, a short-mode destination equal to the broadcast short address. -/
def destinationIsBroadcast (c : Config) (mode : AddrMode) (addr : Addr) : Bool :=
  decide (mode = .short ∧ addr.extractLsb' 0 16 = c.bcastShort)

/-- R145: `ack_eff = txopt.ACK and not bcast`. -/
def ackEffective (txopt : TxOpt) (dstMode : AddrMode) (s : State) : Bool :=
  txopt.ack && !destinationIsBroadcast s.cfg dstMode s.mailbox.dstAddr

/-- R146: the parameters of a submission, from the event word, the mailbox and the identity. -/
def submitParams (tag : Tag) (txopt : TxOpt) (srcMode dstMode : AddrMode) (s : State) : SubmitParams :=
  { srcMode, dstMode, dstPan := s.mailbox.dstPan, dstAddr := s.mailbox.dstAddr,
    ackEff := ackEffective txopt dstMode s, src := s.sourceId,
    metadata := { tag, duration := s.mailbox.duration, group := s.mailbox.group } }

/-- `Codec.overhead` (R12): the table of the instance (log 4). -/
def Codec.overhead (c : Config) (p : SubmitParams) : Nat :=
  match c.overheadTable.find? (fun row => decide (row.1 = p)) with
  | some row => row.2
  | none => c.overheadElse

/-- `InjApplies` (R182): the table of the instance (log 4). -/
def injApplies (c : Config) (h : Header) (m : Metadata) : Bool := decide ((h, m) ∈ c.injOn)

/-- The address of mode `mode` as a header view shows it (R106): "a short address zero-extended"; what a view shows for
a mode without an address is the Codec's own (`other`). -/
def addressShown (mode : AddrMode) (short : ShortAddr) (ext other : Addr) : Addr :=
  match mode with
  | .short => short.setWidth 64
  | .extended => ext
  | .noAddress => other
  | .reserved => other

/-- Modes 2 and 3 (R98): an address is present. -/
def hasAddress : AddrMode → Bool
  | .noAddress => false
  | .reserved => false
  | .short => true
  | .extended => true

/-- Law L3 of R12: `seq = s`, `ackreq = p.ack_eff`, "the addressing of `p`"; every other field is the Codec's own (log 3). -/
def serializedHeader (p : SubmitParams) (seq : SeqNo) (any : Header) : Header :=
  { any with
    ackreq := p.ackEff
    seq := seq
    dstMode := p.dstMode
    dstPanPresent := hasAddress p.dstMode || any.dstPanPresent
    dstPan := if hasAddress p.dstMode then p.dstPan else any.dstPan
    dstAddr := addressShown p.dstMode (p.dstAddr.extractLsb' 0 16) p.dstAddr any.dstAddr
    srcMode := p.srcMode
    srcPan := if hasAddress p.srcMode then p.src.pan else any.srcPan
    srcAddr := addressShown p.srcMode p.src.short p.src.ext any.srcAddr }

/-- Law L2 of R12: `ftype = ACK`, `seq = s`, `ackreq = 0`, "no addressing fields". -/
def ackHeader (seq : SeqNo) (any : Header) : Header :=
  { any with
    ftype := .ack
    ackreq := false
    seq := seq
    dstMode := .noAddress
    dstPanPresent := false
    srcMode := .noAddress }

/-- `Codec.serialize` (R12), with laws L1, L3 and L4; the rest is free (log 3). -/
def Codec.serialize (p : SubmitParams) (seq : SeqNo) (payload : List Byte) : Frame :=
  { bytes := (Codec.anySerialized p seq payload).bytes
    fcsOk := true
    header := serializedHeader p seq (Codec.anySerialized p seq payload).header
    metadata := p.metadata }

/-- `Codec.build_ack` (R12), with laws L1 and L2; the rest is free (log 3). -/
def Codec.buildAck (seq : SeqNo) : Frame :=
  { Codec.anyAck seq with
    fcsOk := true
    header := ackHeader seq (Codec.anyAck seq).header }

/-- `Codec.build_hs` (R12), with laws L1 and L4; the rest is free (log 3). -/
def Codec.buildHs (p : HsParams) (seq : SeqNo) : Frame :=
  { Codec.anyHs p seq with
    fcsOk := true
    metadata := p.metadata }

/-! ### Codes (R21, R38, R41, R97 to R104, R106, R273) -/

/-- R21. -/
def MacState.code : MacState → BitVec 3
  | .idle => 0#3
  | .channelAccess => 1#3
  | .sending => 2#3
  | .ackPending => 3#3
  | .cfePending => 4#3
  | .cfeAckPending => 5#3
  | .energyPending => 6#3

/-- R38. -/
def roleCode : Role → BitVec 1
  | .sensor => 0#1
  | .energyDonor => 1#1

/-- R29. -/
def originCode : Origin → BitVec 2
  | .upstream => 0#2
  | .internal => 1#2
  | .ackgen => 2#2

/-- R41. -/
def SceAction.code : SceAction → BitVec 2
  | .emitCfe => 0#2
  | .emitCfeAck => 1#2
  | .emitEnergy => 2#2

/-- R106. -/
def frameTypeCode : FrameType → BitVec 3
  | .beacon => 0#3
  | .data => 1#3
  | .ack => 2#3
  | .command => 3#3
  | .reserved code => BitVec.ofNat 3 (code.val + 4)

/-- R100. -/
def TrxState.code : TrxState → BitVec 3
  | .trxOff => 0#3
  | .rxOn => 1#3
  | .txOn => 2#3

/-- R101. -/
def Status.code : Status → BitVec 3
  | .success => 0#3
  | .frameTooLong => 1#3
  | .invalidAddress => 2#3
  | .invalidParameter => 3#3
  | .channelAccessFailure => 4#3
  | .noAcknowledgment => 5#3

/-- R273. -/
def FatalReason.code : FatalReason → Nat
  | .trxState => 1
  | .txConf => 2

/-- The opcode of an event, the argument of `T_STALE_EVENT(op)` (R91, R104). -/
def opcodeOf (i : Instr) : BitVec 4 := slice (encode i) 28 4

/-- R104: the code of a trace. -/
def TraceEvent.code : TraceEvent → BitVec 8
  | .enq _ => 0x01#8
  | .reject _ _ => 0x02#8
  | .arbStart _ => 0x03#8
  | .ccaFailDrop _ => 0x04#8
  | .txBegin _ _ => 0x05#8
  | .txDone _ _ => 0x06#8
  | .ackOk _ => 0x07#8
  | .retry _ => 0x08#8
  | .noackDrop _ => 0x09#8
  | .rxFcsDrop => 0x10#8
  | .rxInjDrop => 0x11#8
  | .rxFilterDrop _ => 0x12#8
  | .rxAckUnexpected _ => 0x13#8
  | .rxAckMismatch _ => 0x14#8
  | .rxViolation _ => 0x15#8
  | .ackSuppressed _ => 0x16#8
  | .hsSkippedForAck _ => 0x17#8
  | .rxBeacon => 0x18#8
  | .rxCommand => 0x19#8
  | .hsRfeDonor _ => 0x20#8
  | .hsRfeSensor => 0x21#8
  | .hsCfeRecorded => 0x22#8
  | .hsCfeAck _ => 0x23#8
  | .hsEnergySeen => 0x24#8
  | .hsSample _ _ => 0x25#8
  | .hsDivZero => 0x26#8
  | .hsDone _ => 0x27#8
  | .hsEmit _ => 0x28#8
  | .hsQueueFull _ => 0x29#8
  | .hsTimeout => 0x2A#8
  | .hsAborted _ => 0x2B#8
  | .staleEvent _ => 0x30#8
  | .badEvent _ => 0x31#8
  | .fatal _ => 0x32#8
  | .cfg _ => 0x33#8

/-- R100, R104: the arguments of a trace, "up to two 32-bit arguments". -/
def TraceEvent.args : TraceEvent → List (BitVec 32)
  | .enq handle => [handle.setWidth 32]
  | .reject handle status => [handle.setWidth 32, status.code.setWidth 32]
  | .arbStart ccaCnt => [ccaCnt.setWidth 32]
  | .ccaFailDrop handle => [handle.setWidth 32]
  | .txBegin tag seq => [tag.bits.setWidth 32, seq.setWidth 32]
  | .txDone tag seq => [tag.bits.setWidth 32, seq.setWidth 32]
  | .ackOk seq => [seq.setWidth 32]
  | .retry retryCnt => [BitVec.ofNat 32 retryCnt]
  | .noackDrop handle => [handle.setWidth 32]
  | .rxFcsDrop => []
  | .rxInjDrop => []
  | .rxFilterDrop step => [BitVec.ofNat 32 step]
  | .rxAckUnexpected seq => [seq.setWidth 32]
  | .rxAckMismatch seq => [seq.setWidth 32]
  | .rxViolation tag => [tag.bits.setWidth 32]
  | .ackSuppressed seq => [seq.setWidth 32]
  | .hsSkippedForAck tag => [tag.bits.setWidth 32]
  | .rxBeacon => []
  | .rxCommand => []
  | .hsRfeDonor group => [group.setWidth 32]
  | .hsRfeSensor => []
  | .hsCfeRecorded => []
  | .hsCfeAck duration => [duration]
  | .hsEnergySeen => []
  | .hsSample slot energy => [slot.setWidth 32, energy]
  | .hsDivZero => []
  | .hsDone energy => [energy]
  | .hsEmit tag => [tag.bits.setWidth 32]
  | .hsQueueFull tag => [tag.bits.setWidth 32]
  | .hsTimeout => []
  | .hsAborted state => [state.code.setWidth 32]
  | .staleEvent op => [op.setWidth 32]
  | .badEvent word => [word]
  | .fatal reason => [BitVec.ofNat 32 reason.code]
  | .cfg reg => [reg.setWidth 32]

/-- R100: the code of an output action. -/
def Action.code : Action → BitVec 4
  | .confirm _ _ => 0x0#4
  | .indication _ _ => 0x1#4
  | .energyIndication _ => 0x2#4
  | .trxRequest _ => 0x3#4
  | .txRequest _ => 0x4#4
  | .arbStart => 0x5#4
  | .arbCancel => 0x6#4
  | .faultReport _ _ _ => 0x7#4
  | .sniff _ => 0x8#4
  | .promiscSniff _ => 0x9#4
  | .trace _ => 0xA#4

/-- R111, R110: the mailbox operands an event reads, as `field=value` pairs (a frame is not a number and is left out). -/
def mailboxFields (i : Instr) (m : Mailbox) : List (String × Nat) :=
  match i with
  | .submit _ _ _ _ _ _ =>
      [("dst_pan", m.dstPan.toNat), ("dst_addr", m.dstAddr.toNat), ("len", m.payload.length), ("group", m.group.toNat),
        ("duration", m.duration.toNat)]
  | .ccaConf _ => []
  | .trxConf _ => []
  | .txConf _ => []
  | .rxFrame _ _ => []
  | .energySample _ => [("energy", m.energy.toNat)]
  | .ackwaitFire => []
  | .sceFire => []
  | .hswaitFire => []
  | .cfgWrite _ => [("value", m.value.toNat)]

/-- R111: an event "as its mnemonic followed by `field=value` pairs, mailbox operands included". -/
def textualForm (i : Instr) (m : Mailbox) : String × List (String × Nat) :=
  (i.mnemonic, i.wordFields ++ mailboxFields i m)

end Sys2Proof.Machine
end

