-- ==== Sys2Proof/Machine/Flags.lean ====
section
/-! DEFINITION. Every condition and every computed value a rule tests or stores: the submission checks
(spec/41_submit_queue.md R141 to R143), the table of acceptable transceiver confirmations (spec/42_channel_radio.md
R163), the acceptance filter (spec/43_receive_filter.md R186 to R192), the target test and the duration
(spec/45_energy_handshake.md R242, R248), the saturating count (spec/10_state.md R27), the ACK-wait duration
(spec/42_channel_radio.md R167). -/

namespace Sys2Proof.Machine

/-- `TXQ.len = TXQ_DEPTH` (R85, R140, R246); never with an unbounded queue. -/
def queueFull (s : State) : Bool := decide (s.cfg.txqDepth = some s.txq.length)

/-- R141. -/
def frameTooLong (p : SubmitParams) (s : State) : Bool :=
  decide (s.mailbox.payload.length + Codec.overhead s.cfg p > s.cfg.maxFrameLen)

/-- R142. -/
def invalidAddress (srcMode dstMode : AddrMode) : Bool :=
  decide (srcMode = .reserved ∨ dstMode = .reserved ∨ (srcMode = .noAddress ∧ dstMode = .noAddress))

/-- R143. -/
def invalidParameter (tag : Tag) (txopt : TxOpt) (low : BitVec 10) : Bool :=
  decide (txopt.gts = true ∨ txopt.indirect = true ∨ low ≠ 0#10 ∨ tag = .ack ∨ tag = .unused ∨ tag = .untagged)

/-- R144: "The checks run in the order 1, 2, 3 and the first that fails decides the status." -/
def submitVerdict (tag : Tag) (txopt : TxOpt) (srcMode dstMode : AddrMode) (low : BitVec 10) (s : State) :
    Option Status :=
  if frameTooLong (submitParams tag txopt srcMode dstMode s) s then some .frameTooLong
  else if invalidAddress srcMode dstMode then some .invalidAddress
  else if invalidParameter tag txopt low then some .invalidParameter
  else none

/-- R27, R121: 16 bits, saturating at 0xFFFF. -/
def saturatingNext (n : BitVec 16) : BitVec 16 := if n = 0xFFFF#16 then n else n + 1#16

/-- The table of R163. -/
def trxAcceptable (ms : MacState) (conf : TrxConfirmation) : Bool :=
  match ms, conf with
  | .sending, .txOn => true
  | .sending, .success => true
  | .sending, .rxOn => false
  | .sending, .trxOff => false
  | .idle, .trxOff => true
  | _, .rxOn => true
  | _, .success => true
  | _, .trxOff => false
  | _, .txOn => false

/-- R167, R170: the sum of the four terms, as `DELAY_W` bits (log 14 where it does not fit). -/
def ackWaitDuration (c : Config) : Delay :=
  let sum := c.tUnitBackoff + c.tTurnaround + c.tPreamble + c.tSixOctets
  if sum < 2 ^ 32 then BitVec.ofNat 32 sum else Config.ackWaitUnfit sum

/-- R194: `hs`, one of the four handshake tags. -/
def isHandshake : Tag → Bool
  | .data => false
  | .ack => false
  | .rfe => true
  | .cfe => true
  | .cfeAck => true
  | .energy => true
  | .unused => false
  | .untagged => false

/-- R186: `h.ftype >= 4`. -/
def reservedType : FrameType → Bool
  | .beacon => false
  | .data => false
  | .ack => false
  | .command => false
  | .reserved _ => true

/-- R186, step 1. -/
def failsStep1 (h : Header) (s : State) : Bool :=
  reservedType h.ftype || decide (h.version.toNat > s.cfg.maxFrameVersion)

/-- R187, step 2. -/
def failsStep2 (h : Header) (s : State) : Bool :=
  decide (h.dstPanPresent = true ∧ h.dstPan ≠ s.panId ∧ h.dstPan ≠ s.cfg.bcastPan)

/-- R188, step 3. -/
def failsStep3 (h : Header) (s : State) : Bool :=
  decide (h.dstMode = .short ∧ h.dstAddr.extractLsb' 0 16 ≠ s.shortAddr ∧ h.dstAddr.extractLsb' 0 16 ≠ s.cfg.bcastShort)

/-- R189, step 4. -/
def failsStep4 (h : Header) (s : State) : Bool := decide (h.dstMode = .extended ∧ h.dstAddr ≠ s.extAddr)

/-- R190, step 5. -/
def failsStep5 (h : Header) (s : State) : Bool :=
  decide (h.ftype = .beacon ∧ ¬(s.panId = s.cfg.panUnset ∨ h.srcPan = s.panId))

/-- R191, step 6. -/
def failsStep6 (h : Header) (s : State) : Bool :=
  decide ((h.ftype = .data ∨ h.ftype = .command) ∧ hasAddress h.srcMode = true ∧ h.srcPan ≠ s.panId)

/-- R192: the first failing step; in promiscuous mode only step 1 is applied (R185). `none` is acceptance. -/
def filterVerdict (h : Header) (s : State) : Option Nat :=
  if failsStep1 h s then some 1
  else if s.promisc then none
  else if failsStep2 h s then some 2
  else if failsStep3 h s then some 3
  else if failsStep4 h s then some 4
  else if failsStep5 h s then some 5
  else if failsStep6 h s then some 6
  else none

/-- R194: `owed`, the frame "requests acknowledgment and is not broadcast". -/
def ackOwed (h : Header) (s : State) : Bool := h.ackreq && !destinationIsBroadcast s.cfg h.dstMode h.dstAddr

/-- R248: `IsTarget()`. -/
def isTarget (s : State) : Bool :=
  decide (s.hs.annValid = true ∧ s.hs.annPan = s.panId ∧
    ((s.hs.annMode = .short ∧ s.hs.annAddr.extractLsb' 0 16 = s.shortAddr) ∨
      (s.hs.annMode = .extended ∧ s.hs.annAddr = s.extAddr)))

/-- R242: `HS.e1 + HS.e2`, exact. -/
def sampleSum (e1 e2 : Energy) : Nat := e1.toNat + e2.toNat

/-- R242: `floor(REQUIRED_ENERGY / sum)`. -/
def chargeDuration (c : Config) (sum : Nat) : Duration := BitVec.ofNat 32 (c.requiredEnergy.toNat / sum)

/-- R231: the groups the source maps. -/
def groupMapped (g : Group) : Bool := decide (g = 1#8 ∨ g = 2#8)

/-- R231, R232: group 1 gives 0, group 2 gives `GROUP2_DELAY`. -/
def groupDelay (c : Config) (g : Group) : Delay := if g = 1#8 then 0#32 else c.group2Delay

/-- The three handshake waits (R22, R129, R130). -/
def isHandshakeWait : MacState → Bool
  | .idle => false
  | .channelAccess => false
  | .sending => false
  | .ackPending => false
  | .cfePending => true
  | .cfeAckPending => true
  | .energyPending => true

end Sys2Proof.Machine
end

