-- ==== Sys2Proof/Machine/Ops.lean ====
section
/-! DEFINITION. The named operations: emitting, the queue primitives (spec/20_memory.md R71), the common procedures
(spec/40_common_procedures.md R120 to R132), `PrepareRetransmission` (spec/44_ack_retry.md R212), the fatal entry
(spec/60_exceptions.md R274) and its only exit, the reset signal (R275, R300), and the event port (spec/60_exceptions.md R278). -/

namespace Sys2Proof.Machine

/-- `emit <action>` (R10, R100). -/
def emit (a : Action) (s : State) : State := { s with out := s.out ++ [a] }

/-- `trace <code>` (R10, R104). -/
def trace (t : TraceEvent) (s : State) : State := emit (.trace t) s

/-! ### The queue (R71) -/

/-- `TXQ.head`; a free value when the queue is empty (log 10). -/
def queueHead (s : State) : OutFrame :=
  match s.txq with
  | e :: _ => e
  | [] => Config.headOfEmpty s.free

/-- `TXQ.push_back(e)`. -/
def pushBack (e : OutFrame) (s : State) : State := { s with txq := s.txq ++ [e] }

/-- `TXQ.push_front(e)`. -/
def pushFront (e : OutFrame) (s : State) : State := { s with txq := e :: s.txq }

/-- `TXQ.pop_front()`. -/
def popFront (s : State) : State := { s with txq := s.txq.tail }

/-! ### Cancel and schedule (R124 to R130) -/

/-- R124. -/
def iffClear (s : State) : State := { s with iff := { s.iff with valid := false, inQueue := false } }

/-- R125. -/
def arbCancel (s : State) : State :=
  if s.arbRun then { emit .arbCancel s with arbRun := false } else s

/-- R126. -/
def ackwCancel (s : State) : State := { s with ackw := { s.ackw with armed := false } }

/-- R127. -/
def hsClear (s : State) : State :=
  { s with hs := { s.hs with valid := false, annValid := false, e1Valid := false } }

/-- R128: `SceSchedule(action, delay)`. -/
def sceSchedule (action : SceAction) (delay : Delay) (s : State) : State :=
  { s with sce := { pending := true, action, delay } }

/-- R128: `SceCancel()`. -/
def sceCancel (s : State) : State := { s with sce := { s.sce with pending := false } }

/-- R129. -/
def hswArm (s : State) : State := if s.cfg.hsTimeoutEn then { s with hsw := { armed := true } } else s

/-- R130. -/
def hswCancel (s : State) : State := { s with hsw := { armed := false } }

/-! ### The common procedures -/

/-- R121: `CheckQueue()`. -/
def checkQueue (s : State) : State :=
  if s.ms = .idle ∧ s.txq ≠ [] ∧ s.iff.valid = false ∧ s.sce.pending = false then
    { s with ms := .channelAccess, arbRun := true, ccaCnt := saturatingNext s.ccaCnt }
      |> emit .arbStart
      |> trace (.arbStart (saturatingNext s.ccaCnt))
  else s

/-- R120: `EnterIdle()`. -/
def enterIdle (s : State) : State :=
  { s with ms := .idle } |> emit (.trxRequest .rxOn) |> checkQueue

/-- `MS <- Idle; emit TrxRequest(RX_ON)` unless already in `Idle` (R231, R245). -/
def forceIdle (s : State) : State :=
  if s.ms = .idle then s else { s with ms := .idle } |> emit (.trxRequest .rxOn)

/-- R122: `ConfirmHead(status)`. -/
def confirmHead (status : Status) (s : State) : State :=
  if (queueHead s).origin = .upstream then emit (.confirm (queueHead s).handle status) s else s

/-- R123: `RemoveHead()`. -/
def removeHead (s : State) : State :=
  if (queueHead s).origin = .upstream then { popFront s with retryCnt := 0, ccaCnt := 0#16 } else popFront s

/-- R131: `EnterSending(rec, in_queue)`. -/
def enterSending (e : OutFrame) (inQueue : Bool) (s : State) : State :=
  { s with
    iff := { valid := true, frame := e.frame, tag := e.tag, ackreq := e.ackreq, seq := e.seq, handle := e.handle,
             origin := e.origin, inQueue := inQueue }
    txIssued := false
    ms := .sending }
    |> emit (.trxRequest .txOn)
    |> trace (.txBegin e.tag e.seq)

/-- R212: `PrepareRetransmission()`. -/
def prepareRetransmission (s : State) : State :=
  let s1 := ackwCancel s
  let s2 :=
    if s1.retryCnt < s1.cfg.maxFrameRetries then
      { s1 with retryCnt := s1.retryCnt + 1 } |> trace (.retry (s1.retryCnt + 1))
    else
      s1 |> confirmHead .noAcknowledgment |> trace (.noackDrop (queueHead s1).handle) |> removeHead
  iffClear s2

/-- R132: `AbandonCurrent()`. "Callers guarantee `MS != Sending`", so that row changes nothing. -/
def abandonCurrent (s : State) : State :=
  match s.ms with
  | .idle => s
  | .channelAccess => arbCancel s
  | .sending => s
  | .ackPending => prepareRetransmission s
  | .cfePending | .cfeAckPending | .energyPending =>
      let s1 := hswCancel s
      iffClear (if s1.iff.valid then trace (.hsAborted s1.ms) s1 else s1)

/-- R274: `Fatal(reason)`, the fatal entry; `code` is the offending confirmation code. -/
def fatal (reason : FatalReason) (code : BitVec 3) (s : State) : State :=
  let s1 := { s with fault := true } |> arbCancel |> ackwCancel |> sceCancel |> hswCancel |> hsClear |> iffClear
  { s1 with txIssued := false, ms := .idle }
    |> emit (.trxRequest .rxOn)
    |> emit (.faultReport reason s.ms code)
    |> trace (.fatal reason)

/-- R300: the reset signal, the only exit from the faulted condition (R275): "Frames queued before reset are lost without
confirmation." It is no event, so no step takes it (log 18); what is presented at the port and what was emitted before are
not the block's and stay. -/
def resetSignal (s : State) : State :=
  { State.resetWith s.cfg with
    out := s.out ++ (State.resetWith s.cfg).out, pending := s.pending, mailbox := s.mailbox, free := s.free }

/-- R215: `GenerateAck(seq)`. -/
def generateAck (seq : SeqNo) (s : State) : State :=
  s |> abandonCurrent |> sceCancel
    |> enterSending
        { frame := Codec.buildAck seq, handle := 0#8, tag := .ack, ackreq := false, seq, origin := .ackgen } false

/-! ### Accepting an event, and the event port -/

/-- R276: with `FAULT = 1` no event is accepted; else the event gives the next state. -/
def accept (s next : State) : Host.Outcome State Fault Refusal := if s.fault then .fault .halted else .next next

/-- R105, R150: an illegal word "is consumed, changes no state, and emits only `Trace(T_BAD_EVENT, word)`". -/
def badEvent (word : EventWord) (s : State) : State := trace (.badEvent word) s

/-- An event source (R278). -/
inductive Source where
  | upperLayer
  | arbiter
  | radioControl
  | ackWaitTimer
  | stateChangeEvent
  | hsWaitTimer
  deriving DecidableEq, Repr

/-- The source of an event (R278). -/
def sourceOf : Instr → Source
  | .submit _ _ _ _ _ _ => .upperLayer
  | .ccaConf _ => .arbiter
  | .trxConf _ => .radioControl
  | .txConf _ => .radioControl
  | .rxFrame _ _ => .radioControl
  | .energySample _ => .radioControl
  | .ackwaitFire => .ackWaitTimer
  | .sceFire => .stateChangeEvent
  | .hswaitFire => .hsWaitTimer
  | .cfgWrite _ => .upperLayer

/-- The two holds of a block that is not halted: SUBMIT with a full queue (R140), SCE_FIRE while `Sending` (R245). -/
def isHeld (i : Instr) (s : State) : Bool :=
  match i with
  | .submit _ _ _ _ _ _ => queueFull s
  | .ccaConf _ => false
  | .trxConf _ => false
  | .txConf _ => false
  | .rxFrame _ _ => false
  | .energySample _ => false
  | .ackwaitFire => false
  | .sceFire => decide (s.sce.pending = true ∧ s.ms = .sending)
  | .hswaitFire => false
  | .cfgWrite _ => false

/-- Whether a presented word has to wait: its event is held, or the event's source already waits; and, if so, which source
waits. DESIGN CHOICE (log 23): an illegal word belongs to no source, R278 giving it none, so it waits behind no held event
and passes a held SUBMIT or SCE_FIRE presented before it. -/
def waitingSource (waiting : List Source) (s : State) (word : EventWord) : Option Source :=
  match decode word with
  | .event i => if isHeld i s || waiting.contains (sourceOf i) then some (sourceOf i) else none
  | .illegal _ => none

/-- The first presented word that need not wait (an illegal one never has to: log 23), and the others in their order. -/
def takeAcceptable (waiting : List Source) (s : State) : List PortEvent → Option (PortEvent × List PortEvent)
  | [] => none
  | ev :: rest =>
    match waitingSource waiting s ev.word with
    | none => some (ev, rest)
    | some src => (takeAcceptable (src :: waiting) s rest).map fun found => (found.1, ev :: found.2)

/-- A hold (R140, R245; log 6, log 23): the event is not accepted and stays presented; the first word that need not wait goes
before it. Nothing else changes. -/
def hold (i : Instr) (s : State) : State :=
  let ev : PortEvent := { word := encode i, mailbox := s.mailbox }
  { s with
    pending :=
      match takeAcceptable [sourceOf i] s s.pending with
      | some (found, rest) => found :: ev :: rest
      | none => ev :: s.pending }

/-- The block turns to the presented event `ev`, with `rest` still presented (R310): its operands are in the mailbox. -/
def present (ev : PortEvent) (rest : List PortEvent) (s : State) : State :=
  { s with pending := rest, mailbox := ev.mailbox, free := s.free + 1 }

end Sys2Proof.Machine
end

