-- ==== Sys2Proof/Machine/Channel.lean ====
section
/-! DEFINITION. The confirmations of the Arbiter and of Radio Control: CCA_CONF, TRX_CONF, TX_CONF
(spec/42_channel_radio.md R160 to R170). -/

namespace Sys2Proof.Machine

/-- R160: the head-of-line frame goes into the in-flight slot. -/
def channelIdle (s : State) : State := enterSending (queueHead s) true { s with arbRun := false }

/-- R161: the head-of-line frame is dropped. -/
def channelAccessFailed (s : State) : State :=
  { s with arbRun := false }
    |> confirmHead .channelAccessFailure
    |> trace (.ccaFailDrop (queueHead s).handle)
    |> removeHead
    |> enterIdle

/-- R160 to R162; an illegal code (R93) is an illegal word (R105). -/
def ccaConfirmed (code : BitVec 3) (s : State) : State :=
  match CcaResult.ofCode code with
  | none => badEvent (encode (.ccaConf code)) s
  | some result =>
    if s.ms = .channelAccess then
      match result with
      | .channelIdle => channelIdle s
      | .channelAccessFailure => channelAccessFailed s
    else trace (.staleEvent (opcodeOf (.ccaConf code))) s

/-- CCA_CONF. -/
def execCcaConf (code : BitVec 3) (s : State) : Host.Outcome State Fault Refusal := accept s (ccaConfirmed code s)

/-- R164: the transmit request, once per `Sending` episode. -/
def issueTransmit (s : State) : State :=
  if s.txIssued then s else { emit (.txRequest s.iff.frame) s with txIssued := true }

/-- R163, R164; an illegal code (R93) is an illegal word (R105). -/
def trxConfirmed (code : BitVec 3) (s : State) : State :=
  match TrxConfirmation.ofCode code with
  | none => badEvent (encode (.trxConf code)) s
  | some conf =>
    if trxAcceptable s.ms conf then
      if s.ms = .sending then issueTransmit s else s
    else fatal .trxState code s

/-- TRX_CONF. -/
def execTrxConf (code : BitVec 3) (s : State) : Host.Outcome State Fault Refusal := accept s (trxConfirmed code s)

/-- R167: to `AckPending`. -/
def awaitAck (s : State) : State :=
  { s with ms := .ackPending, ackw := { armed := true, dur := ackWaitDuration s.cfg } } |> emit (.trxRequest .rxOn)

/-- R168: confirm and pop the transmitted handshake frame, keep the slot full, and wait in `next`. -/
def awaitHandshake (next : MacState) (s : State) : State :=
  let s1 :=
    if s.iff.inQueue then
      let s0 := s |> confirmHead .success |> removeHead
      { s0 with iff := { s0.iff with inQueue := false } }
    else s
  { s1 with ms := next } |> hswArm |> emit (.trxRequest .rxOn)

/-- R169: the frame is done; back to `Idle`. -/
def transmissionDone (s : State) : State :=
  let s1 := if s.iff.inQueue then s |> confirmHead .success |> removeHead else s
  let s2 := if s.iff.tag = .energy then hsClear s1 else s1
  s2 |> iffClear |> enterIdle

/-- R166: "branches by the frame's purpose tag". -/
def transmitted (s : State) : State :=
  let s1 := trace (.txDone s.iff.tag s.iff.seq) s
  match s.iff.tag with
  | .data => if s.iff.ackreq then awaitAck s1 else transmissionDone s1
  | .rfe => awaitHandshake .cfePending s1
  | .cfe => awaitHandshake .cfeAckPending s1
  | .cfeAck => awaitHandshake .energyPending s1
  | .energy => transmissionDone s1
  | .ack => transmissionDone s1
  | .unused => transmissionDone s1
  | .untagged => transmissionDone s1

/-- R165: consistent only in `Sending`, with the request issued, and with `TX_SUCCESS`. -/
def txConfirmed (code : BitVec 3) (s : State) : State :=
  if s.ms = .sending ∧ s.txIssued = true ∧ code = 0#3 then transmitted s else fatal .txConf code s

/-- TX_CONF. -/
def execTxConf (code : BitVec 3) (s : State) : Host.Outcome State Fault Refusal := accept s (txConfirmed code s)

end Sys2Proof.Machine
end

