-- ==== Sys2Proof/Machine/Handshake.lean ====
section
/-! DEFINITION. The energy-transfer handshake: reactions to tagged frames (spec/45_energy_handshake.md R230 to R239) and
the events ENERGY_SAMPLE, SCE_FIRE, HSWAIT_FIRE (R240 to R249). -/

namespace Sys2Proof.Machine

/-- R239. -/
def violation (tag : Tag) (s : State) : State := trace (.rxViolation tag) s

/-- The context of a newly observed RFE (R231, R233); the fields neither rule names keep their values (log 12). -/
def recordRequester (h : Header) (m : Metadata) (s : State) : State :=
  { s with
    hs := { s.hs with
      valid := true, reqMode := h.srcMode, reqAddr := h.srcAddr, reqPan := h.srcPan, group := m.group,
      annValid := false, e1Valid := false } }

/-- R231: an EnergyDonor receives RFE. -/
def donorRfe (h : Header) (m : Metadata) (s : State) : State :=
  if groupMapped m.group && hasAddress h.srcMode then
    s |> sceCancel |> abandonCurrent |> forceIdle |> recordRequester h m
      |> sceSchedule .emitCfe (groupDelay s.cfg m.group)
      |> trace (.hsRfeDonor m.group)
  else violation .rfe s

/-- R233: a Sensor receives RFE in `Idle`, `ChannelAccess` or `EnergyPending`. -/
def sensorFreeze (h : Header) (m : Metadata) (s : State) : State :=
  let s1 := s |> sceCancel |> arbCancel |> hswCancel
  { s1 with ms := .energyPending } |> recordRequester h m |> hswArm |> trace .hsRfeSensor

/-- R233, R234. -/
def sensorRfe (h : Header) (m : Metadata) (s : State) : State :=
  match s.ms with
  | .idle | .channelAccess | .energyPending => sensorFreeze h m s
  | .sending | .ackPending | .cfePending | .cfeAckPending => violation .rfe s

/-- R235: a Sensor receives CFE. -/
def recordAnnounced (h : Header) (s : State) : State :=
  { s with hs := { s.hs with annValid := true, annMode := h.dstMode, annAddr := h.dstAddr, annPan := h.dstPan } }
    |> trace .hsCfeRecorded

/-- R237: a CFE-ACK is honoured. -/
def honourCfeAck (m : Metadata) (s : State) : State :=
  let s1 := sceCancel s
  { s1 with hs := { s1.hs with duration := m.duration } }
    |> sceSchedule .emitEnergy 0#32
    |> trace (.hsCfeAck m.duration)

/-- R230: `HsReact(h, m)`. -/
def hsReact (h : Header) (m : Metadata) (s : State) : State :=
  match m.tag with
  | .rfe =>
    match s.cfg.role with
    | .energyDonor => donorRfe h m s
    | .sensor => sensorRfe h m s
  | .cfe =>
    match s.cfg.role with
    | .energyDonor => violation .cfe s
    | .sensor => recordAnnounced h s
  | .cfeAck =>
    if s.ms = .cfeAckPending ∨ (s.cfg.role = .energyDonor ∧ s.ms = .cfePending) then honourCfeAck m s
    else violation .cfeAck s
  | .energy => s |> hsClear |> trace .hsEnergySeen
  | .data => violation .data s
  | .ack => violation .ack s
  | .unused => violation .unused s
  | .untagged => violation .untagged s

/-! ### ENERGY_SAMPLE -/

/-- R241: slot 1. -/
def sampleFirst (s : State) : State :=
  { s with hs := { s.hs with e1 := s.mailbox.energy, e1Valid := true } } |> trace (.hsSample 1#3 s.mailbox.energy)

/-- R242: slot 2. -/
def sampleSecond (s : State) : State :=
  let s1 := { s with hs := { s.hs with e2 := s.mailbox.energy } } |> trace (.hsSample 2#3 s.mailbox.energy)
  if isTarget s1 && s1.hs.e1Valid then
    let sum := sampleSum s1.hs.e1 s1.hs.e2
    let s2 := { s1 with hs := { s1.hs with e1Valid := false } }
    if sum = 0 then trace .hsDivZero s2
    else
      { s2 with hs := { s2.hs with duration := chargeDuration s.cfg sum } }
        |> sceSchedule .emitCfeAck s.cfg.cfeAckDelay
  else s1

/-- R243: slot 0. -/
def sampleTotal (s : State) : State :=
  let s1 := trace (.hsSample 0#3 s.mailbox.energy) s
  if s.ms = .energyPending then
    s1 |> emit (.energyIndication s.mailbox.energy) |> trace (.hsDone s.mailbox.energy)
      |> hswCancel |> sceCancel |> hsClear |> iffClear |> enterIdle
  else s1

/-- R240 to R244; slots 4 to 7 are illegal words (R93, R105). -/
def energySampled (slot : BitVec 3) (s : State) : State :=
  match slot.toNat with
  | 0 => sampleTotal s
  | 1 => sampleFirst s
  | 2 => sampleSecond s
  | 3 => trace (.hsSample 3#3 s.mailbox.energy) s
  | _ => badEvent (encode (.energySample slot)) s

/-- ENERGY_SAMPLE. -/
def execEnergySample (slot : BitVec 3) (s : State) : Host.Outcome State Fault Refusal :=
  accept s (energySampled slot s)

/-! ### SCE_FIRE -/

/-- R247: what each action emits. -/
def hsParams (action : SceAction) (s : State) : HsParams :=
  match action with
  | .emitCfe =>
      { tag := .cfe, dstPan := s.hs.reqPan, dstMode := s.hs.reqMode, dstAddr := s.hs.reqAddr, src := s.sourceId,
        metadata := { tag := .cfe, duration := 0#32, group := s.hs.group } }
  | .emitCfeAck =>
      { tag := .cfeAck, dstPan := s.panId, dstMode := .short, dstAddr := s.cfg.bcastShort.setWidth 64, src := s.sourceId,
        metadata := { tag := .cfeAck, duration := s.hs.duration, group := 0#8 } }
  | .emitEnergy =>
      { tag := .energy, dstPan := s.panId, dstMode := .short, dstAddr := s.cfg.bcastShort.setWidth 64, src := s.sourceId,
        metadata := { tag := .energy, duration := s.hs.duration, group := 0#8 } }

/-- R246: `EmitHs(action)`. -/
def emitHs (action : SceAction) (s : State) : State :=
  let p := hsParams action s
  if action = .emitCfe ∧ s.hs.valid = false then trace (.hsAborted .idle) s
  else if queueFull s then trace (.hsQueueFull p.tag) s
  else
    let e : OutFrame :=
      { frame := Codec.buildHs p s.dsn, handle := 0#8, tag := p.tag, ackreq := false, seq := s.dsn, origin := .internal }
    let s1 := { s with dsn := s.dsn + 1#8 }
    (if s.cfg.hsInsertFront then pushFront e s1 else pushBack e s1) |> trace (.hsEmit p.tag)

/-- R245 with a pending action: leave the current wait, emit, and start channel access. -/
def sceFired (s : State) : State :=
  s |> (fun t => { t with sce := { t.sce with pending := false } })
    |> abandonCurrent |> forceIdle |> emitHs s.sce.action |> checkQueue

/-- SCE_FIRE (R245): stale without a pending action; held while `Sending`. -/
def execSceFire (s : State) : Host.Outcome State Fault Refusal :=
  accept s
    (if s.sce.pending then
      if isHeld .sceFire s then hold .sceFire s else sceFired s
     else trace (.staleEvent (opcodeOf .sceFire)) s)

/-! ### HSWAIT_FIRE -/

/-- R249 with the timer armed. -/
def hsTimedOut (s : State) : State :=
  s |> hswCancel |> trace .hsTimeout |> sceCancel |> hsClear |> iffClear |> enterIdle

/-- HSWAIT_FIRE (R249). -/
def execHswaitFire (s : State) : Host.Outcome State Fault Refusal :=
  accept s (if s.hsw.armed then hsTimedOut s else trace (.staleEvent (opcodeOf .hswaitFire)) s)

end Sys2Proof.Machine
end

