-- ==== Sys2Proof/Machine/Receive.lean ====
section
/-! DEFINITION. The receive path and the acknowledgment events: RX_FRAME (spec/43_receive_filter.md R180 to R198), the
ACK-frame branch and ACKWAIT_FIRE (spec/44_ack_retry.md R210 to R220). -/

namespace Sys2Proof.Machine

/-- R210 with the timer armed, and the second half of R219. -/
def retryOrGiveUp (s : State) : State := s |> prepareRetransmission |> enterIdle

/-- ACKWAIT_FIRE (R210). -/
def execAckwaitFire (s : State) : Host.Outcome State Fault Refusal :=
  accept s (if s.ackw.armed then retryOrGiveUp s else trace (.staleEvent (opcodeOf .ackwaitFire)) s)

/-- R218: the awaited acknowledgment. -/
def ackMatched (h : Header) (s : State) : State :=
  s |> ackwCancel |> confirmHead .success |> trace (.ackOk h.seq) |> removeHead |> iffClear |> enterIdle

/-- R218 to R220: an accepted ACK frame. -/
def ackReceived (h : Header) (s : State) : State :=
  if s.ms = .ackPending then
    if h.seq = s.iff.seq then ackMatched h s else s |> trace (.rxAckMismatch h.seq) |> retryOrGiveUp
  else trace (.rxAckUnexpected h.seq) s

/-- R198: an accepted data or command frame while `Sending`. -/
def receivedWhileSending (h : Header) (m : Metadata) (s : State) : State :=
  let s1 := if ackOwed h s then trace (.ackSuppressed h.seq) s else s
  if isHandshake m.tag then trace (.rxViolation m.tag) s1 else s1

/-- R103. -/
def indicationParams (h : Header) (lqi : Lqi) : IndicationParams :=
  { seq := h.seq, lqi, srcMode := h.srcMode, srcPan := h.srcPan, srcAddr := h.srcAddr, dstMode := h.dstMode,
    dstPan := h.dstPan, dstAddr := h.dstAddr }

/-- R195: only a data frame with tag `Data` or none is indicated. -/
def indicate (h : Header) (m : Metadata) (lqi : Lqi) (f : Frame) (s : State) : State :=
  if h.ftype = .data ∧ (m.tag = .data ∨ m.tag = .untagged) then emit (.indication (indicationParams h lqi) f) s else s

/-- R194: what an accepted data or command frame does before its indication. -/
def reactToFrame (h : Header) (m : Metadata) (s : State) : State :=
  if s.ms = .sending then receivedWhileSending h m s
  else if ackOwed h s then
    generateAck h.seq (if isHandshake m.tag then trace (.hsSkippedForAck m.tag) s else s)
  else if isHandshake m.tag then hsReact h m s
  else s

/-- R194, R195: an accepted data frame. -/
def dataAccepted (h : Header) (m : Metadata) (lqi : Lqi) (f : Frame) (s : State) : State :=
  s |> reactToFrame h m |> indicate h m lqi f

/-- R197: an accepted command frame takes part in R194 and is then traced (log 21). -/
def commandAccepted (h : Header) (m : Metadata) (lqi : Lqi) (f : Frame) (s : State) : State :=
  s |> reactToFrame h m |> indicate h m lqi f |> trace .rxCommand

/-- R193: dispatch by frame type; a reserved type never gets here (R186, log 20). -/
def dispatchFrame (h : Header) (m : Metadata) (lqi : Lqi) (f : Frame) (s : State) : State :=
  match h.ftype with
  | .ack => ackReceived h s
  | .beacon => trace .rxBeacon s
  | .data => dataAccepted h m lqi f s
  | .command => commandAccepted h m lqi f s
  | .reserved _ => s

/-- R184: the sniffers. -/
def sniffed (f : Frame) (s : State) : State :=
  let s1 := emit (.sniff f) s
  if s.promisc then emit (.promiscSniff f) s1 else s1

/-- R181 to R193: the front end, the filter and the dispatch, on the Codec's views of the frame. -/
def frameReceived (inj : Bool) (lqi : Lqi) (f : Frame) (s : State) : State :=
  if f.fcsOk then
    if s.cfg.dropEn && inj && injApplies s.cfg f.header f.metadata then trace .rxInjDrop s
    else
      match filterVerdict f.header s with
      | some step => s |> sniffed f |> trace (.rxFilterDrop step)
      | none => s |> sniffed f |> dispatchFrame f.header f.metadata lqi f
  else trace .rxFcsDrop s

/-- RX_FRAME (R180). -/
def execRxFrame (inj : Bool) (lqi : Lqi) (s : State) : Host.Outcome State Fault Refusal :=
  accept s (frameReceived inj lqi s.mailbox.frame s)

end Sys2Proof.Machine
end

