-- ==== Sys2Proof/Machine/Submit.lean ====
section
/-! DEFINITION. The upper layer's events: SUBMIT and CFG_WRITE (spec/41_submit_queue.md R140 to R150). -/

namespace Sys2Proof.Machine

/-- R144: `reject(status)`. -/
def rejectSubmission (handle : Handle) (status : Status) (s : State) : State :=
  s |> emit (.confirm handle status) |> trace (.reject handle status)

/-- R146, R147: serialize with the next sequence number, enqueue, and start channel access if the block may. -/
def enqueueSubmission (handle : Handle) (tag : Tag) (p : SubmitParams) (s : State) : State :=
  { s with dsn := s.dsn + 1#8 }
    |> pushBack { frame := Codec.serialize p s.dsn s.mailbox.payload, handle, tag, ackreq := p.ackEff, seq := s.dsn,
                  origin := .upstream }
    |> trace (.enq handle)
    |> checkQueue

/-- R148: the three checks, then the enqueue. -/
def submitted (handle : Handle) (tag : Tag) (txopt : TxOpt) (srcMode dstMode : AddrMode) (low : BitVec 10)
    (s : State) : State :=
  match submitVerdict tag txopt srcMode dstMode low s with
  | some status => rejectSubmission handle status s
  | none => enqueueSubmission handle tag (submitParams tag txopt srcMode dstMode s) s

/-- SUBMIT (R140, R148): held while the queue is full. -/
def execSubmit (handle : Handle) (tag : Tag) (txopt : TxOpt) (srcMode dstMode : AddrMode) (low : BitVec 10)
    (s : State) : Host.Outcome State Fault Refusal :=
  accept s
    (if isHeld (.submit handle tag txopt srcMode dstMode low) s then hold (.submit handle tag txopt srcMode dstMode low) s
     else submitted handle tag txopt srcMode dstMode low s)

/-- R150: one register of the identity, or `PROMISC`; a reserved index writes nothing and is a bad event. -/
def configured (reg : BitVec 4) (s : State) : State :=
  match reg.toNat with
  | 0 => { s with shortAddr := s.mailbox.value.extractLsb' 0 16 } |> trace (.cfg reg)
  | 1 => { s with panId := s.mailbox.value.extractLsb' 0 16 } |> trace (.cfg reg)
  | 2 => { s with extAddrLo := s.mailbox.value } |> trace (.cfg reg)
  | 3 => { s with extAddrHi := s.mailbox.value } |> trace (.cfg reg)
  | 4 => { s with promisc := s.mailbox.value.getLsbD 0 } |> trace (.cfg reg)
  | _ => badEvent (encode (.cfgWrite reg)) s

/-- CFG_WRITE (R150). -/
def execCfgWrite (reg : BitVec 4) (s : State) : Host.Outcome State Fault Refusal := accept s (configured reg s)

end Sys2Proof.Machine
end

