-- ==== Sys2Proof/Machine/Dispatch.lean ====
section
/-! DEFINITION. One arm per event (spec/30_encoding.md R91). -/

namespace Sys2Proof.Machine

def exec (i : Instr) (s : State) : Host.Outcome State Fault Refusal :=
  match i with
  | .submit handle tag txopt srcMode dstMode low => Sys2Proof.Machine.execSubmit handle tag txopt srcMode dstMode low s
  | .ccaConf code => Sys2Proof.Machine.execCcaConf code s
  | .trxConf code => Sys2Proof.Machine.execTrxConf code s
  | .txConf code => Sys2Proof.Machine.execTxConf code s
  | .rxFrame inj lqi => Sys2Proof.Machine.execRxFrame inj lqi s
  | .energySample slot => Sys2Proof.Machine.execEnergySample slot s
  | .ackwaitFire => Sys2Proof.Machine.execAckwaitFire s
  | .sceFire => Sys2Proof.Machine.execSceFire s
  | .hswaitFire => Sys2Proof.Machine.execHswaitFire s
  | .cfgWrite reg => Sys2Proof.Machine.execCfgWrite reg s

end Sys2Proof.Machine
end

