-- ==== Sys2Proof/Machine/Step.lean ====
section
/-! DEFINITION. One step of the block (spec/00_scope.md R7): it consumes the first presented event, or waits. -/

namespace Sys2Proof.Machine

/-- One step. With `FAULT = 1` the block is halted (R276). With no event presented it waits (log 7). Else the first
presented event is consumed: an illegal word as R105 says, any other as `exec` says. -/
def step (s : State) : Host.Outcome State Fault Refusal :=
  match s.pending with
  | [] => accept s s
  | ev :: rest =>
    match decode ev.word with
    | .event i => exec i (present ev rest s)
    | .illegal _ => accept s (badEvent ev.word (present ev rest s))

/-- `s` with an event word presented before every other event, with the operands now in the mailbox (log 5). -/
def State.withFetchWord (s : State) (nbits w : Nat) : State :=
  { s with pending := { word := BitVec.ofNat 32 (w % 2 ^ nbits), mailbox := s.mailbox } :: s.pending }

end Sys2Proof.Machine
end

