-- ==== Sys2Proof/Safety.lean ====
section
/-! DEFINITION. What counts as a safe run: the invariants of spec/10_state.md R30, R33, R60 to R66, rest
(spec/70_reset_and_hazards.md R304), what the event sources owe the block (spec/60_exceptions.md R278,
spec/70_reset_and_hazards.md R310 to R315), and the readings of queue and outputs that statements use. -/

namespace Sys2Proof.Safety

open Sys2Proof.Machine

/-- R105, on the number of the word: a reserved `OP`, a must-be-zero bit of formats C, F, N or G, or an illegal `code`. -/
def illegalWord (w : EventWord) : Prop :=
  let op := w.toNat / 2 ^ 28
  let rest := w.toNat % 2 ^ 28
  op = 0x0 ∨ 0xB ≤ op ∨
    ((op = 0x2 ∨ op = 0x3 ∨ op = 0x4 ∨ op = 0x6) ∧ 2 ^ 3 ≤ rest) ∨
    (op = 0x5 ∧ 2 ^ 9 ≤ rest) ∨
    ((op = 0x7 ∨ op = 0x8 ∨ op = 0x9) ∧ rest ≠ 0) ∨
    (op = 0xA ∧ rest % 2 ^ 24 ≠ 0) ∨
    (op = 0x2 ∧ 2 ≤ rest) ∨
    ((op = 0x3 ∨ op = 0x6) ∧ 4 ≤ rest)

/-! ### Readings -/

/-- The record of the in-flight slot, to compare with a queue entry (R33). -/
def slotRecord (f : InFlight) : OutFrame :=
  { frame := f.frame, handle := f.handle, tag := f.tag, ackreq := f.ackreq, seq := f.seq, origin := f.origin }

/-- The upper layer's entries of a queue, oldest first (R149). -/
def upstreamEntries (q : List OutFrame) : List OutFrame := q.filter fun e => decide (e.origin = .upstream)

/-- The statuses that end an admitted submission (R149, R272): not the three of a rejection. -/
def endsSubmission : Status → Bool
  | .success => true
  | .frameTooLong => false
  | .invalidAddress => false
  | .invalidParameter => false
  | .channelAccessFailure => true
  | .noAcknowledgment => true

/-- The handle of a confirmation that ends an admitted submission. -/
def endedHandle : Action → Option Handle
  | .confirm handle status => if endsSubmission status then some handle else none
  | .indication _ _ => none
  | .energyIndication _ => none
  | .trxRequest _ => none
  | .txRequest _ => none
  | .arbStart => none
  | .arbCancel => none
  | .faultReport _ _ _ => none
  | .sniff _ => none
  | .promiscSniff _ => none
  | .trace _ => none

/-- The handles of the submissions that a list of actions ends, in order. -/
def endedHandles (acts : List Action) : List Handle := acts.filterMap endedHandle

/-- Whether an action is an `Indication`. -/
def isIndication : Action → Bool
  | .confirm _ _ => false
  | .indication _ _ => true
  | .energyIndication _ => false
  | .trxRequest _ => false
  | .txRequest _ => false
  | .arbStart => false
  | .arbCancel => false
  | .faultReport _ _ _ => false
  | .sniff _ => false
  | .promiscSniff _ => false
  | .trace _ => false

/-- An output with the count of an arbiter-start trace, the one place where `CCA_CNT` shows (R27), left out. -/
def withoutCcaCount : Action → Action
  | .trace (.arbStart _) => .trace (.arbStart 0#16)
  | a => a

/-- What a `Sniff` and, in promiscuous mode, a `PromiscSniff` add to the outputs (R184). -/
def sniffs (f : Frame) (s : State) : List Action := if s.promisc then [.sniff f, .promiscSniff f] else [.sniff f]

/-- The frame in the mailbox reaches the filter: checksum good (R181), not dropped by error injection (R182). -/
def reachesFilter (inj : Bool) (s : State) : Prop :=
  s.mailbox.frame.fcsOk = true ∧
    ¬(s.cfg.dropEn = true ∧ inj = true ∧ (s.mailbox.frame.header, s.mailbox.frame.metadata) ∈ s.cfg.injOn)

/-- Filter step 1 passes (R186). -/
def passesStep1 (h : Header) (s : State) : Prop :=
  (h.ftype = .beacon ∨ h.ftype = .data ∨ h.ftype = .ack ∨ h.ftype = .command) ∧ h.version.toNat ≤ s.cfg.maxFrameVersion

/-- Filter step 2 passes (R187). -/
def passesStep2 (h : Header) (s : State) : Prop :=
  h.dstPanPresent = true → h.dstPan = s.panId ∨ h.dstPan = s.cfg.bcastPan

/-- Filter step 3 passes (R188). -/
def passesStep3 (h : Header) (s : State) : Prop :=
  h.dstMode = .short → h.dstAddr.setWidth 16 = s.shortAddr ∨ h.dstAddr.setWidth 16 = s.cfg.bcastShort

/-- Filter step 4 passes (R189). -/
def passesStep4 (h : Header) (s : State) : Prop :=
  h.dstMode = .extended → h.dstAddr = s.extAddrHi ++ s.extAddrLo

/-- Filter step 5 passes (R190). -/
def passesStep5 (h : Header) (s : State) : Prop :=
  h.ftype = .beacon → s.panId = s.cfg.panUnset ∨ h.srcPan = s.panId

/-- Filter step 6 passes (R191). -/
def passesStep6 (h : Header) (s : State) : Prop :=
  h.ftype = .data ∨ h.ftype = .command → h.srcMode = .short ∨ h.srcMode = .extended → h.srcPan = s.panId

/-- The frame is accepted (R192, R185). -/
def accepted (h : Header) (s : State) : Prop :=
  passesStep1 h s ∧
    (s.promisc = true ∨
      passesStep2 h s ∧ passesStep3 h s ∧ passesStep4 h s ∧ passesStep5 h s ∧ passesStep6 h s)

/-- The frame's destination is the broadcast short address (R194). -/
def broadcastFrame (h : Header) (s : State) : Prop := h.dstMode = .short ∧ h.dstAddr.setWidth 16 = s.cfg.bcastShort

/-- One of the four handshake tags (R194). -/
def handshakeTag (t : Tag) : Prop := t = .rfe ∨ t = .cfe ∨ t = .cfeAck ∨ t = .energy

/-! ### The rules' effects, each written as one record -/

/-- The actions `acts` are emitted, in order (R10, R100). -/
def emitted (acts : List Action) (s : State) : State := { s with out := s.out ++ acts }

/-- R120, R121: "receive-on idle", and in the same step the Arbiter for a queued frame. -/
def idleEntered (s : State) : State :=
  if s.txq ≠ [] ∧ s.iff.valid = false ∧ s.sce.pending = false then
    let count := if s.ccaCnt = 0xFFFF#16 then 0xFFFF#16 else s.ccaCnt + 1#16
    { s with
      ms := .channelAccess
      arbRun := true
      ccaCnt := count
      out := s.out ++ [.trxRequest .rxOn, .arbStart, .trace (.arbStart count)] }
  else { s with ms := .idle, out := s.out ++ [.trxRequest .rxOn] }

/-- R121: the Arbiter is started for a queued frame when the block is in `Idle` with nothing in flight or scheduled. -/
def queueChecked (s : State) : State :=
  if s.ms = .idle ∧ s.txq ≠ [] ∧ s.iff.valid = false ∧ s.sce.pending = false then
    let count := if s.ccaCnt = 0xFFFF#16 then 0xFFFF#16 else s.ccaCnt + 1#16
    { s with
      ms := .channelAccess
      arbRun := true
      ccaCnt := count
      out := s.out ++ [.arbStart, .trace (.arbStart count)] }
  else s

/-- R122: what confirming the entry `e` emits. -/
def confirmed (e : OutFrame) (status : Status) : List Action :=
  if e.origin = .upstream then [.confirm e.handle status] else []

/-- R123: the head `e` is released and `rest` stays; the counters are reset for an upper-layer entry. -/
def headReleased (e : OutFrame) (rest : List OutFrame) (s : State) : State :=
  { s with
    txq := rest
    retryCnt := if e.origin = .upstream then 0 else s.retryCnt
    ccaCnt := if e.origin = .upstream then 0#16 else s.ccaCnt }

/-- R124. -/
def slotCleared (s : State) : State := { s with iff := { s.iff with valid := false, inQueue := false } }

/-- R126. -/
def ackWaitCancelled (s : State) : State := { s with ackw := { s.ackw with armed := false } }

/-- R128. -/
def scheduleCancelled (s : State) : State := { s with sce := { s.sce with pending := false } }

/-- R127. -/
def contextCleared (s : State) : State :=
  { s with hs := { s.hs with valid := false, annValid := false, e1Valid := false } }

/-- R212: the acknowledgment of the head `e` is given up: one more retry, or the frame is dropped. -/
def ackLost (e : OutFrame) (rest : List OutFrame) (s : State) : State :=
  slotCleared (ackWaitCancelled
    (if s.retryCnt < s.cfg.maxFrameRetries then
      emitted [.trace (.retry (s.retryCnt + 1))] { s with retryCnt := s.retryCnt + 1 }
    else emitted (confirmed e .noAcknowledgment ++ [.trace (.noackDrop e.handle)]) (headReleased e rest s)))

/-- R131: the frame `e` goes into the slot and transmit-on is requested. -/
def sendingEntered (e : OutFrame) (inQueue : Bool) (s : State) : State :=
  { s with
    iff := { valid := true, frame := e.frame, tag := e.tag, ackreq := e.ackreq, seq := e.seq, handle := e.handle,
             origin := e.origin, inQueue := inQueue }
    txIssued := false
    ms := .sending
    out := s.out ++ [.trxRequest .txOn, .trace (.txBegin e.tag e.seq)] }

/-- R132: what the block was waiting for is left. In `AckPending` the queue is not empty (R65, R33); with an empty one this
record says nothing of use. -/
def waitLeft (s : State) : State :=
  match s.ms with
  | .idle => s
  | .channelAccess => { s with arbRun := false, out := s.out ++ (if s.arbRun then [.arbCancel] else []) }
  | .sending => s
  | .ackPending =>
    match s.txq with
    | e :: rest => ackLost e rest s
    | [] => s
  | .cfePending | .cfeAckPending | .energyPending =>
    slotCleared
      { s with hsw := { armed := false }, out := s.out ++ (if s.iff.valid then [.trace (.hsAborted s.ms)] else []) }

/-- R231, R245: `Idle` and a receive-on request, unless the block is in `Idle`. -/
def idleForced (s : State) : State :=
  if s.ms = .idle then s else { s with ms := .idle, out := s.out ++ [.trxRequest .rxOn] }

/-- R274: the fatal entry. -/
def fatalEntered (reason : FatalReason) (code : BitVec 3) (s : State) : State :=
  { s with
    fault := true
    arbRun := false
    txIssued := false
    ms := .idle
    ackw := { s.ackw with armed := false }
    sce := { s.sce with pending := false }
    hsw := { armed := false }
    hs := { s.hs with valid := false, annValid := false, e1Valid := false }
    iff := { s.iff with valid := false, inQueue := false }
    out := s.out ++ ((if s.arbRun then [.arbCancel] else []) ++
      [.trxRequest .rxOn, .faultReport reason s.ms code, .trace (.fatal reason)]) }

/-- R195, R197: what an accepted data or command frame adds last: an `Indication` for an untagged data frame, a trace for a
command. -/
def frameClosing (lqi : Lqi) (f : Frame) : List Action :=
  (if f.header.ftype = .data ∧ (f.metadata.tag = .data ∨ f.metadata.tag = .untagged) then
    [.indication
      { seq := f.header.seq, lqi := lqi, srcMode := f.header.srcMode, srcPan := f.header.srcPan,
        srcAddr := f.header.srcAddr, dstMode := f.header.dstMode, dstPan := f.header.dstPan,
        dstAddr := f.header.dstAddr } f]
  else []) ++ (if f.header.ftype = .command then [.trace .rxCommand] else [])

/-- R231, R233: the context an RFE leaves. -/
def requesterRecorded (f : Frame) (s : State) : State :=
  { s with
    hs := { s.hs with
      valid := true, reqMode := f.header.srcMode, reqAddr := f.header.srcAddr, reqPan := f.header.srcPan,
      group := f.metadata.group, annValid := false, e1Valid := false } }

/-! ### The invariants -/

/-- What every entry of `TXQ` satisfies: R32 (no `Ack` entry), R143 (the tags admitted), R246 (what is generated). -/
def EntryOk (e : OutFrame) : Prop :=
  (e.origin = .upstream ∧ e.tag ≠ .ack ∧ e.tag ≠ .unused ∧ e.tag ≠ .untagged) ∨
    (e.origin = .internal ∧ (e.tag = .cfe ∨ e.tag = .cfeAck ∨ e.tag = .energy) ∧ e.ackreq = false)

/-- The invariants of spec/10_state.md section 11, with what makes them inductive. -/
structure Invariants (s : State) : Prop where
  /-- R60. -/
  arbRun_iff : s.arbRun = true ↔ s.ms = .channelAccess
  /-- R61. -/
  ackw_iff : s.ackw.armed = true ↔ s.ms = .ackPending
  /-- R63. -/
  retry_le : s.retryCnt ≤ s.cfg.maxFrameRetries
  /-- R63, strengthened: a running retry count belongs to a queued upper-layer frame. -/
  retry_owner : s.retryCnt ≠ 0 → ∃ e ∈ s.txq, e.origin = .upstream
  /-- R64. -/
  quiescent : s.ms = .idle → s.sce.pending = false → s.txq = []
  /-- R30, R65. -/
  slot_empty : s.ms = .idle ∨ s.ms = .channelAccess → s.iff.valid = false
  /-- R30, the converse it states. -/
  slot_full :
    s.ms = .sending ∨ s.ms = .ackPending ∨ s.ms = .cfePending ∨ s.ms = .cfeAckPending → s.iff.valid = true
  /-- R65. -/
  ackPending_slot :
    s.ms = .ackPending →
      s.iff.tag = .data ∧ s.iff.ackreq = true ∧ s.iff.inQueue = true ∧ s.iff.origin = .upstream
  /-- R33, R168: in a handshake wait the slot's frame has left the queue. -/
  wait_slot : isHandshakeWait s.ms = true → s.iff.valid = true → s.iff.inQueue = false
  /-- R33, R216: in `Sending`, a frame that is not the head of the queue is a generated ACK. -/
  sending_slot : s.ms = .sending → s.iff.inQueue = false → s.iff.tag = .ack ∧ s.iff.origin = .ackgen
  /-- R33. -/
  head_is_slot : s.iff.valid = true → s.iff.inQueue = true → s.txq.head? = some (slotRecord s.iff)
  /-- R31, R160: in `ChannelAccess` there is a candidate. -/
  candidate : s.ms = .channelAccess → s.txq ≠ []
  /-- R66. -/
  hsw_wait : s.hsw.armed = true → isHandshakeWait s.ms = true
  /-- R32, R70, R85: the capacity. -/
  depth : ∀ d, s.cfg.txqDepth = some d → s.txq.length ≤ d
  /-- R32. -/
  entries : ∀ e ∈ s.txq, EntryOk e

/-- "These hold after reset and after every step while `FAULT = 0`" (spec/10_state.md section 11). -/
def Inv (s : State) : Prop := s.fault = false → Invariants s

/-! ### The environment (R278, R303, R304, R310 to R315; log 22) -/

/-- What the Arbiter owes the block (R314). -/
inductive ArbiterDuty where
  /-- No result outstanding. -/
  | quiet
  /-- Started: one result will come. -/
  | running
  /-- Cancelled: at most one stale result may come. -/
  | cancelled
  deriving DecidableEq, Repr

/-- An unanswered `TrxRequest` (R311), and whether its answer has become late: the block has since left the kind of state
it was made for (R312), so that only `SUCCESS`, "which is acceptable in every state", still fits. -/
structure OwedAnswer where
  state : TrxState
  late : Bool
  deriving DecidableEq, Repr

/-- What the collaborators still owe the block: the unanswered `TrxRequest`s, oldest first (R311), whether a `TxRequest`
is unanswered (R313), the Arbiter's duty (R314). -/
structure Ledger where
  trx : List OwedAnswer
  tx : Bool
  arb : ArbiterDuty
  deriving DecidableEq, Repr

/-- R303 (b), R300: right after reset only reset's own `TrxRequest(RX_ON)` is unanswered. -/
def Ledger.reset : Ledger := { trx := [{ state := .rxOn, late := false }], tx := false, arb := .quiet }

/-- Every unanswered `TrxRequest` is late. -/
def Ledger.overtaken (l : Ledger) : Ledger := { l with trx := l.trx.map fun owed => { owed with late := true } }

/-- A new `TrxRequest`. One for transmit-on begins a transmission, and every earlier request still unanswered is late: "If
the confirmation of a `TrxRequest(RX_ON)` is still outstanding when the block next enters `Sending`" (R312). -/
def Ledger.requested (state : TrxState) (l : Ledger) : Ledger :=
  let before :=
    match state with
    | .txOn => l.overtaken
    | .rxOn => l
    | .trxOff => l
  { before with trx := before.trx ++ [{ state := state, late := false }] }

/-- What one output action asks of the collaborators. -/
def Ledger.observe (l : Ledger) : Action → Ledger
  | .confirm _ _ => l
  | .indication _ _ => l
  | .energyIndication _ => l
  | .trxRequest state => l.requested state
  | .txRequest _ => { l with tx := true }
  | .arbStart => { l with arb := .running }
  | .arbCancel => { l with arb := .cancelled }
  | .faultReport _ _ _ => l
  | .sniff _ => l
  | .promiscSniff _ => l
  | .trace _ => l

/-- What presenting an event pays off. A TX_CONF ends the transmission, so a transmit-on request still unanswered is late
from then on (log 22: R312 speaks of receive-on requests only). -/
def Ledger.answered (l : Ledger) : Instr → Ledger
  | .submit _ _ _ _ _ _ => l
  | .ccaConf _ => { l with arb := .quiet }
  | .trxConf _ => { l with trx := l.trx.tail }
  | .txConf _ => { l.overtaken with tx := false }
  | .rxFrame _ _ => l
  | .energySample _ => l
  | .ackwaitFire => l
  | .sceFire => l
  | .hswaitFire => l
  | .cfgWrite _ => l

/-- The ledger after an event and the actions it gave. -/
def Ledger.after (l : Ledger) (i : Instr) (acts : List Action) : Ledger := acts.foldl Ledger.observe (l.answered i)

/-- R311: "the answer to `TrxRequest(s)` has `code = s` or `code = SUCCESS`"; R312: a late one has `code = SUCCESS`. -/
def OwedAnswer.answeredBy (owed : OwedAnswer) (code : BitVec 3) : Prop :=
  code = 3#3 ∨ (owed.late = false ∧ code = owed.state.code)

/-- When a source may present an event: R278 and the obligations R311 to R315. Both ways that R312 leaves the radio are
admissible, request by request: a TRX_CONF presented before the event that starts a transmission answers a request that is
not late, and any other is `SUCCESS`. -/
def Admissible (l : Ledger) (s : State) : Instr → Prop
  | .submit _ _ _ _ _ _ => True
  | .ccaConf _ => l.arb ≠ .quiet
  | .trxConf code => ∃ owed rest, l.trx = owed :: rest ∧ owed.answeredBy code
  | .txConf code => l.tx = true ∧ code = 0#3
  | .rxFrame _ _ => True
  | .energySample _ => True
  | .ackwaitFire => s.ackw.armed = true
  | .sceFire => s.sce.pending = true ∧ s.ms ≠ .sending
  | .hswaitFire => s.hsw.armed = true
  | .cfgWrite _ => True

/-- What is outstanding fits the block's state: a transmit request in `Sending` once it is issued, and until then an
unanswered request that will bring it about (R311: without one the block is stuck); every request that is not late is for
transmit-on in `Sending` and for receive-on elsewhere; the Arbiter runs when `ARB_RUN = 1`. -/
structure LedgerOk (s : State) (l : Ledger) : Prop where
  tx_iff : l.tx = true ↔ s.ms = .sending ∧ s.txIssued = true
  trx_due : s.ms = .sending → s.txIssued = false → l.trx ≠ []
  trx_sending : s.ms = .sending → ∀ owed ∈ l.trx, owed.late = false → owed.state = .txOn
  trx_other : s.ms ≠ .sending → ∀ owed ∈ l.trx, owed.late = false → owed.state = .rxOn
  arb_iff : l.arb = .running ↔ s.arbRun = true

/-- R304: a run is at rest. -/
def AtRest (s : State) (l : Ledger) : Prop :=
  s.fault = false ∧ s.ms = .idle ∧ s.txq = [] ∧ s.iff.valid = false ∧ s.sce.pending = false ∧ s.ackw.armed = false ∧
    s.hsw.armed = false ∧ l.trx = [] ∧ l.tx = false ∧ l.arb ≠ .running

/-- R304, R318: waiting for a peer with `HS_TIMEOUT_EN = 0`: "neither at rest nor able to leave by itself". DESIGN CHOICE
(log 24): a wait with a scheduled action is not counted, though the two rules do not name it, because SCE_FIRE ends the wait
(R245, R249) with no frame or sample arriving. -/
def Stalled (s : State) : Prop :=
  s.fault = false ∧ isHandshakeWait s.ms = true ∧ s.cfg.hsTimeoutEn = false ∧ s.sce.pending = false

end Sys2Proof.Safety
end

