-- ==== Sys2Proof/Certificates/Slice0/Obligations.lean ====
section
/-! DEFINITION. The statements for the provers. Numbers R<n> are rules of spec/. -/

open Sys2Proof Sys2Proof.Machine Sys2Proof.Safety

/-! ### Encoding -/

/-- R90, R92 to R96: decoding the word of a legal event gives the event back, with every operand at every value. -/
def Obligations.DecodingAnEncodedEventGivesItBack : Prop :=
  ∀ i : Instr, i.wellFormed = true → decode (encode i) = .event i

/-- R90 to R96: a word that decodes is the word of the event it decodes to, and that event is legal. -/
def Obligations.EncodingADecodedWordGivesItBack : Prop :=
  ∀ (w : EventWord) (i : Instr), decode w = .event i → i.wellFormed = true ∧ encode i = w

/-- R105: a word decodes to an event exactly when the rule does not call it illegal. -/
def Obligations.ExactlyTheLegalWordsDecode : Prop :=
  ∀ w : EventWord, (∃ i : Instr, decode w = .event i) ↔ ¬illegalWord w

/-- spec/95_test_vectors.md section 2.1: some of its words. -/
def Obligations.SpecEventWordsDecode : Prop :=
  decode 0x10702800#32 = .event (.submit 0x07#8 .data ⟨false, false, false⟩ .short .short 0#10) ∧
    decode 0x10106800#32 = .event (.submit 0x01#8 .data ⟨true, false, false⟩ .short .short 0#10) ∧
    decode 0x1030A800#32 = .event (.submit 0x03#8 .data ⟨false, true, false⟩ .short .short 0#10) ∧
    decode 0x12042800#32 = .event (.submit 0x20#8 .rfe ⟨false, false, false⟩ .short .short 0#10) ∧
    decode 0x30000002#32 = .event (.trxConf 2#3) ∧
    decode 0x50000180#32 = .event (.rxFrame true 0x80#8) ∧
    decode 0x60000003#32 = .event (.energySample 3#3) ∧
    decode 0x80000000#32 = .event .sceFire ∧
    decode 0xA4000000#32 = .event (.cfgWrite 4#4)

/-! ### The step and reset -/

/-- R7, R310: when the first presented word decodes to an event, the step is that event's meaning, with the event taken
from the presented ones and its operands in the mailbox. -/
def Obligations.StepRunsTheDecodedEvent : Prop :=
  ∀ (s : State) (ev : PortEvent) (rest : List PortEvent) (i : Instr),
    s.pending = ev :: rest → decode ev.word = .event i →
      step s = exec i { s with pending := rest, mailbox := ev.mailbox, free := s.free + 1 }

/-- R105: an illegal word is consumed, changes no state, and emits only `Trace(T_BAD_EVENT, word)`. -/
def Obligations.IllegalWordIsConsumedWithOneTrace : Prop :=
  ∀ (s : State) (ev : PortEvent) (rest : List PortEvent),
    s.fault = false → s.pending = ev :: rest → illegalWord ev.word →
      step s =
        .next { s with
          pending := rest, mailbox := ev.mailbox, free := s.free + 1, out := s.out ++ [.trace (.badEvent ev.word)] }

/-- The model's choice of log 15: an event whose `code` R93 calls illegal is treated as the illegal word it is. -/
def Obligations.IllFormedEventActsAsItsIllegalWord : Prop :=
  ∀ (s : State) (i : Instr),
    s.fault = false → i.wellFormed = false → exec i s = .next (emitted [.trace (.badEvent (encode i))] s)

/-- R276: with `FAULT = 1` no event is accepted, whatever it is, and no step is taken. -/
def Obligations.FaultedBlockAcceptsNoEvent : Prop :=
  ∀ s : State, s.fault = true → step s = .fault .halted ∧ ∀ i : Instr, exec i s = .fault .halted

/-- The model's choice of log 7: with no event presented the block waits, and nothing changes. -/
def Obligations.BlockWaitsWithoutAnEvent : Prop :=
  ∀ s : State, s.fault = false → s.pending = [] → step s = .next s

/-- R67, R300: what reset leaves, for any construction parameters; and the reset state is a reset with some parameters
that keep R8's bound. -/
def Obligations.ResetLeavesTheValuesOfTheSpec : Prop :=
  (∀ c : Config,
    let s := State.resetWith c
    s.ms = .idle ∧ s.fault = false ∧ s.arbRun = false ∧ s.txIssued = false ∧ s.retryCnt = 0 ∧ s.ccaCnt = 0#16 ∧
      s.dsn = c.dsnInit ∧ s.iff.valid = false ∧ s.txq = [] ∧ s.hs.valid = false ∧ s.hs.annValid = false ∧
      s.hs.e1Valid = false ∧ s.ackw.armed = false ∧ s.sce.pending = false ∧ s.hsw.armed = false ∧
      s.shortAddr = c.shortAddr0 ∧ s.panId = c.panId0 ∧ s.extAddrHi ++ s.extAddrLo = c.extAddr0 ∧
      s.promisc = c.promisc0 ∧ s.out = [.trxRequest .rxOn]) ∧
    ∃ c : Config, State.reset = State.resetWith c ∧ c.group2Delay ≠ 0#32

/-! ### The whole machine -/

/-- spec/10_state.md section 11: the invariants hold after reset, from any state (R275: a faulted one too) and with any
parameters. -/
def Obligations.InvariantsHoldAtReset : Prop :=
  Inv State.reset ∧ (∀ c : Config, Inv (State.resetWith c)) ∧
    ∀ s : State, (resetSignal s).fault = false ∧ Invariants (resetSignal s) ∧ (resetSignal s).cfg = s.cfg

/-- spec/10_state.md section 11: every step from a state with the invariants gives one with them. -/
def Obligations.EveryStepKeepsTheInvariants : Prop :=
  ∀ s t : State, Inv s → step s = .next t → Inv t

/-- R104: "A trace changes no state and no rule reads one"; R79 (c): no step takes back an output. The event's effect does
not depend on what was emitted before, and what it emits comes after it. -/
def Obligations.OutputsAreAppendedAndNeverRead : Prop :=
  ∀ (i : Instr) (s t : State),
    exec i { s with out := [] } = .next t → exec i s = .next { t with out := s.out ++ t.out }

/-- R27: no rule reads `CCA_CNT`; only the argument of the arbiter-start trace shows it. Every output is the same, in the
same order, but for that argument. -/
def Obligations.ChannelAccessCountIsOnlyTraced : Prop :=
  ∀ (i : Instr) (s t u : State) (n : BitVec 16),
    exec i { s with out := [] } = .next t → exec i { s with out := [], ccaCnt := n } = .next u →
      { u with ccaCnt := t.ccaCnt, out := t.out } = t ∧
        u.out.map withoutCcaCount = t.out.map withoutCcaCount

/-- R38: `ROLE` and the other parameters are written by no event. -/
def Obligations.ParametersAreNeverWritten : Prop :=
  roleCode .sensor = 0#1 ∧ roleCode .energyDonor = 1#1 ∧ ∀ s t : State, step s = .next t → t.cfg = s.cfg

/-- R37: the identity registers and `PROMISC` are written by CFG_WRITE only. -/
def Obligations.IdentityIsWrittenOnlyByCfgWrite : Prop :=
  ∀ (i : Instr) (s t : State),
    exec i s = .next t → (∀ reg, i ≠ .cfgWrite reg) →
      t.shortAddr = s.shortAddr ∧ t.panId = s.panId ∧ t.extAddrLo = s.extAddrLo ∧ t.extAddrHi = s.extAddrHi ∧
        t.promisc = s.promisc

/-- R273: `FAULT` is set only by a TRX_CONF or a TX_CONF, which then reports the reason, the old `MS` and the code. -/
def Obligations.OnlyRadioConfirmationsAreFatal : Prop :=
  ∀ (i : Instr) (s t : State),
    exec i s = .next t → t.fault = true →
      ∃ code, (i = .trxConf code ∧ t = fatalEntered .trxState code s) ∨ (i = .txConf code ∧ t = fatalEntered .txConf code s)

/-- R28, R147, R246: the sequence counter advances exactly when one frame is queued, which takes its old value: a SUBMIT's
behind all others, an SCE_FIRE's at the end R246 names of the queue as it is once the current wait is left (R132). Else no
frame enters the queue and at most the head leaves it. -/
def Obligations.SequenceNumberIsTakenByOneQueuedFrame : Prop :=
  ∀ (i : Instr) (s t : State),
    exec i s = .next t →
      (t.dsn = s.dsn ∧ (t.txq = s.txq ∨ t.txq = s.txq.tail)) ∨
        (t.dsn = s.dsn + 1#8 ∧
          ∃ e : OutFrame, e.seq = s.dsn ∧
            ((∃ handle tag txopt srcMode dstMode low, i = .submit handle tag txopt srcMode dstMode low ∧
                e.origin = .upstream ∧ e.handle = handle ∧ e.tag = tag ∧ t.txq = s.txq ++ [e]) ∨
              (i = .sceFire ∧ e.origin = .internal ∧
                t.txq = if s.cfg.hsInsertFront = true then e :: (waitLeft s).txq else (waitLeft s).txq ++ [e])))

/-- R149: an upper-layer entry is confirmed exactly when it is popped, entries leave in the order they came, at most one a
step, and none is lost or duplicated. -/
def Obligations.UpstreamFramesLeaveInOrderEachConfirmedOnce : Prop :=
  ∀ s t : State, Inv s → step s = .next t →
    ∃ popped pushed new,
      t.out = s.out ++ new ∧
        upstreamEntries s.txq ++ pushed = popped ++ upstreamEntries t.txq ∧
        endedHandles new = popped.map (fun e => e.handle) ∧
        popped.length + pushed.length ≤ 1

/-- R276, R311 to R315: from a state with the invariants, an event presented as the obligations of the environment allow
(both ways of R312: a TRX_CONF in time, or a late `SUCCESS`) keeps `FAULT = 0`, and what is then outstanding fits the new state. -/
def Obligations.ConsistentEnvironmentNeverFaults : Prop :=
  ∀ (s t : State) (l : Ledger) (i : Instr) (new : List Action),
    s.fault = false → Invariants s → LedgerOk s l → i.wellFormed = true → Admissible l s i →
      exec i s = .next t → t.out = s.out ++ new → t.fault = false ∧ LedgerOk t (l.after i new)

/-- R303, R304, R311: right after reset the environment's ledger fits, and answering reset's own request, with `RX_ON` or
with `SUCCESS`, leaves the block at rest. -/
def Obligations.AnsweringResetLeavesTheBlockAtRest : Prop :=
  ∀ (c : Config) (code : BitVec 3),
    LedgerOk (State.resetWith c) Ledger.reset ∧
      (Admissible Ledger.reset (State.resetWith c) (.trxConf code) →
        ∃ t, exec (.trxConf code) (State.resetWith c) = .next t ∧ t = State.resetWith c ∧
          AtRest t (Ledger.reset.after (.trxConf code) []))

/-- R43: a cancellation writes 0, cancelling twice is cancelling once, and cancelling nothing does nothing. -/
def Obligations.CancellationIsIdempotent : Prop :=
  ∀ s : State,
    (ackwCancel s).ackw.armed = false ∧ (sceCancel s).sce.pending = false ∧ (hswCancel s).hsw.armed = false ∧
      (arbCancel s).arbRun = false ∧
      ackwCancel (ackwCancel s) = ackwCancel s ∧ sceCancel (sceCancel s) = sceCancel s ∧
      hswCancel (hswCancel s) = hswCancel s ∧ arbCancel (arbCancel s) = arbCancel s ∧
      (s.ackw.armed = false → ackwCancel s = s) ∧ (s.sce.pending = false → sceCancel s = s) ∧
      (s.hsw.armed = false → hswCancel s = s) ∧ (s.arbRun = false → arbCancel s = s)

/-- R132: what holds after `AbandonCurrent` from a state with the invariants and not in `Sending`. -/
def Obligations.AbandonCurrentLeavesNothingRunning : Prop :=
  ∀ s : State, Invariants s → s.ms ≠ .sending →
    abandonCurrent s = waitLeft s ∧
      (abandonCurrent s).iff.valid = false ∧ (abandonCurrent s).arbRun = false ∧
      (abandonCurrent s).ackw.armed = false ∧ (abandonCurrent s).hsw.armed = false ∧ (abandonCurrent s).ms = s.ms

/-! ### SUBMIT and CFG_WRITE -/

/-- R141 to R144: the three checks in order, and the rejection, which changes nothing else. -/
def Obligations.MalformedSubmissionIsRejectedAtOnce : Prop :=
  ∀ (s : State) (handle : Handle) (tag : Tag) (txopt : TxOpt) (srcMode dstMode : AddrMode) (low : BitVec 10),
    s.fault = false → s.cfg.txqDepth ≠ some s.txq.length →
      let params : SubmitParams :=
        { srcMode := srcMode, dstMode := dstMode, dstPan := s.mailbox.dstPan, dstAddr := s.mailbox.dstAddr,
          ackEff := txopt.ack &&
            !decide (dstMode = .short ∧ s.mailbox.dstAddr.setWidth 16 = s.cfg.bcastShort),
          src := { short := s.shortAddr, ext := s.extAddrHi ++ s.extAddrLo, pan := s.panId },
          metadata := { tag := tag, duration := s.mailbox.duration, group := s.mailbox.group } }
      let tooLong := s.cfg.maxFrameLen < s.mailbox.payload.length + Codec.overhead s.cfg params
      let badAddress := srcMode = .reserved ∨ dstMode = .reserved ∨ (srcMode = .noAddress ∧ dstMode = .noAddress)
      let badOption :=
        txopt.gts = true ∨ txopt.indirect = true ∨ low ≠ 0#10 ∨ tag = .ack ∨ tag = .unused ∨ tag = .untagged
      ∀ status : Status,
        (tooLong ∧ status = .frameTooLong) ∨ (¬tooLong ∧ badAddress ∧ status = .invalidAddress) ∨
            (¬tooLong ∧ ¬badAddress ∧ badOption ∧ status = .invalidParameter) →
          exec (.submit handle tag txopt srcMode dstMode low) s =
            .next (emitted [.confirm handle status, .trace (.reject handle status)] s)

/-- R145 to R147, R121, R148 (b), (c): an admitted submission takes the next sequence number, is queued last, and starts
the Arbiter when the block is in `Idle` with nothing in flight and nothing scheduled; else it only queues. -/
def Obligations.AdmittedSubmissionIsQueued : Prop :=
  ∀ (s : State) (handle : Handle) (tag : Tag) (txopt : TxOpt) (srcMode dstMode : AddrMode),
    s.fault = false → s.cfg.txqDepth ≠ some s.txq.length →
      txopt.gts = false → txopt.indirect = false → tag ≠ .ack → tag ≠ .unused → tag ≠ .untagged →
      srcMode ≠ .reserved → dstMode ≠ .reserved → (srcMode ≠ .noAddress ∨ dstMode ≠ .noAddress) →
      let params : SubmitParams :=
        { srcMode := srcMode, dstMode := dstMode, dstPan := s.mailbox.dstPan, dstAddr := s.mailbox.dstAddr,
          ackEff := txopt.ack &&
            !decide (dstMode = .short ∧ s.mailbox.dstAddr.setWidth 16 = s.cfg.bcastShort),
          src := { short := s.shortAddr, ext := s.extAddrHi ++ s.extAddrLo, pan := s.panId },
          metadata := { tag := tag, duration := s.mailbox.duration, group := s.mailbox.group } }
      s.mailbox.payload.length + Codec.overhead s.cfg params ≤ s.cfg.maxFrameLen →
        let entry : OutFrame :=
          { frame := Codec.serialize params s.dsn s.mailbox.payload, handle := handle, tag := tag,
            ackreq := params.ackEff, seq := s.dsn, origin := .upstream }
        exec (.submit handle tag txopt srcMode dstMode 0#10) s =
          .next (queueChecked
            { emitted [.trace (.enq handle)] s with dsn := s.dsn + 1#8, txq := s.txq ++ [entry] })

/-- R140, R245, and the model's choice of log 6: a held event, a SUBMIT with the queue full or an SCE_FIRE pending in
`Sending`, stays presented; only the order of the presented events may change, and nothing else does. -/
def Obligations.HeldEventStaysPresented : Prop :=
  ∀ (i : Instr) (s : State),
    s.fault = false →
      (sourceOf i = .upperLayer ∧ (∀ reg, i ≠ .cfgWrite reg) ∧ s.cfg.txqDepth = some s.txq.length) ∨
        (i = .sceFire ∧ s.sce.pending = true ∧ s.ms = .sending) →
      ∃ q, exec i s = .next { s with pending := q } ∧
        q.Perm ({ word := encode i, mailbox := s.mailbox } :: s.pending)

/-- R150: each register CFG_WRITE writes, and the reserved indices. -/
def Obligations.CfgWriteWritesOneRegister : Prop :=
  ∀ (s : State) (reg : BitVec 4), s.fault = false →
    (reg = 0#4 →
      exec (.cfgWrite reg) s = .next (emitted [.trace (.cfg reg)] { s with shortAddr := s.mailbox.value.setWidth 16 })) ∧
    (reg = 1#4 →
      exec (.cfgWrite reg) s = .next (emitted [.trace (.cfg reg)] { s with panId := s.mailbox.value.setWidth 16 })) ∧
    (reg = 2#4 → exec (.cfgWrite reg) s = .next (emitted [.trace (.cfg reg)] { s with extAddrLo := s.mailbox.value })) ∧
    (reg = 3#4 → exec (.cfgWrite reg) s = .next (emitted [.trace (.cfg reg)] { s with extAddrHi := s.mailbox.value })) ∧
    (reg = 4#4 →
      exec (.cfgWrite reg) s =
        .next (emitted [.trace (.cfg reg)] { s with promisc := s.mailbox.value.getLsbD 0 })) ∧
    (5#4 ≤ reg → exec (.cfgWrite reg) s = .next (emitted [.trace (.badEvent (encode (.cfgWrite reg)))] s))

/-! ### CCA_CONF, TRX_CONF, TX_CONF -/

/-- R160, R131: an idle channel loads the head of the queue into the slot and asks for transmit-on. -/
def Obligations.ChannelIdleLoadsTheHeadFrame : Prop :=
  ∀ (s : State) (e : OutFrame) (rest : List OutFrame),
    s.fault = false → s.ms = .channelAccess → s.txq = e :: rest →
      exec (.ccaConf 0#3) s = .next (sendingEntered e true { s with arbRun := false })

/-- R161, R122, R123, R120: a channel-access failure drops the head frame and returns to receive-on idle. -/
def Obligations.ChannelAccessFailureDropsTheHeadFrame : Prop :=
  ∀ (s : State) (e : OutFrame) (rest : List OutFrame),
    s.fault = false → s.ms = .channelAccess → s.txq = e :: rest →
      exec (.ccaConf 1#3) s =
        .next (idleEntered (emitted (confirmed e .channelAccessFailure ++ [.trace (.ccaFailDrop e.handle)])
          (headReleased e rest { s with arbRun := false })))

/-- R162: outside `ChannelAccess` an arbiter result is stale. -/
def Obligations.StaleChannelResultIsOnlyTraced : Prop :=
  ∀ (s : State) (code : BitVec 3),
    s.fault = false → s.ms ≠ .channelAccess → (code = 0#3 ∨ code = 1#3) →
      exec (.ccaConf code) s = .next (emitted [.trace (.staleEvent 0x2#4)] s)

/-- R163, R274: the table of acceptable transceiver confirmations; every other pair is fatal. -/
def Obligations.TransceiverConfirmationTable : Prop :=
  ∀ (s : State) (code : BitVec 3), s.fault = false → code < 4#3 →
    let acceptable :=
      (s.ms = .sending ∧ (code = 2#3 ∨ code = 3#3)) ∨
        (s.ms = .idle ∧ (code = 0#3 ∨ code = 1#3 ∨ code = 3#3)) ∨
        ((s.ms = .channelAccess ∨ s.ms = .ackPending ∨ s.ms = .cfePending ∨ s.ms = .cfeAckPending ∨
          s.ms = .energyPending) ∧ (code = 1#3 ∨ code = 3#3))
    (¬acceptable → exec (.trxConf code) s = .next (fatalEntered .trxState code s)) ∧
      (acceptable → s.ms ≠ .sending → exec (.trxConf code) s = .next s)

/-- R164: in `Sending`, the first acceptable confirmation requests the transmission, a later one does nothing. -/
def Obligations.TransmissionIsRequestedOnce : Prop :=
  ∀ (s : State) (code : BitVec 3), s.fault = false → s.ms = .sending → (code = 2#3 ∨ code = 3#3) →
    exec (.trxConf code) s =
      .next (if s.txIssued = false then emitted [.txRequest s.iff.frame] { s with txIssued := true } else s)

/-- R165, R274: a TX_CONF is fatal unless in `Sending`, with the request issued, and successful. -/
def Obligations.InconsistentTransmitConfirmationIsFatal : Prop :=
  ∀ (s : State) (code : BitVec 3),
    s.fault = false → (s.ms ≠ .sending ∨ s.txIssued = false ∨ code ≠ 0#3) →
      exec (.txConf code) s = .next (fatalEntered .txConf code s)

/-- R166, R167, R170: data with an acknowledgment requested goes to `AckPending`; the timer holds the sum of the four
constants when it fits in its width (else a free value, log 14). -/
def Obligations.AckRequestedDataAwaitsItsAck : Prop :=
  ∀ s : State,
    s.fault = false → s.ms = .sending → s.txIssued = true → s.iff.tag = .data → s.iff.ackreq = true →
      ∃ dur : Delay,
        exec (.txConf 0#3) s =
          .next (emitted [.trace (.txDone .data s.iff.seq), .trxRequest .rxOn]
            { s with ms := .ackPending, ackw := { armed := true, dur := dur } }) ∧
        (s.cfg.tUnitBackoff + s.cfg.tTurnaround + s.cfg.tPreamble + s.cfg.tSixOctets < 2 ^ 32 →
          dur.toNat = s.cfg.tUnitBackoff + s.cfg.tTurnaround + s.cfg.tPreamble + s.cfg.tSixOctets)

/-- R166, R168, R129: a transmitted RFE, CFE or CFE-ACK is confirmed and popped when it is still queued, the slot stays
full, and the block waits in the state of its tag. -/
def Obligations.HandshakeFrameAwaitsItsReply : Prop :=
  ∀ (s : State) (e : OutFrame) (rest : List OutFrame) (next : MacState),
    s.fault = false → s.ms = .sending → s.txIssued = true → (s.iff.inQueue = true → s.txq = e :: rest) →
      (s.iff.tag = .rfe ∧ next = .cfePending) ∨ (s.iff.tag = .cfe ∧ next = .cfeAckPending) ∨
        (s.iff.tag = .cfeAck ∧ next = .energyPending) →
      let t := if s.iff.inQueue = true then headReleased e rest s else s
      exec (.txConf 0#3) s =
        .next { t with
          ms := next
          iff := { s.iff with inQueue := false }
          hsw := if s.cfg.hsTimeoutEn = true then { armed := true } else s.hsw
          out := s.out ++ ([.trace (.txDone s.iff.tag s.iff.seq)] ++
            (if s.iff.inQueue = true then confirmed e .success else []) ++ [.trxRequest .rxOn]) }

/-- R166, R169: every other transmitted frame is done: confirmed and popped when it is still queued, the slot cleared, the
context cleared after an ENERGY frame, and the block returns to receive-on idle. -/
def Obligations.FinishedTransmissionReturnsToIdle : Prop :=
  ∀ (s : State) (e : OutFrame) (rest : List OutFrame),
    s.fault = false → s.ms = .sending → s.txIssued = true → (s.iff.inQueue = true → s.txq = e :: rest) →
      s.iff.tag ≠ .rfe → s.iff.tag ≠ .cfe → s.iff.tag ≠ .cfeAck → (s.iff.tag = .data → s.iff.ackreq = false) →
      let done := emitted [.trace (.txDone s.iff.tag s.iff.seq)] s
      let t := if s.iff.inQueue = true then emitted (confirmed e .success) (headReleased e rest done) else done
      exec (.txConf 0#3) s =
        .next (idleEntered (slotCleared (if s.iff.tag = .energy then contextCleared t else t)))

/-! ### RX_FRAME: front end and filter -/

/-- R181, R182: a frame with a bad checksum, or dropped by error injection, gives one trace and nothing else. -/
def Obligations.DamagedOrInjectedFrameIsDropped : Prop :=
  ∀ (s : State) (inj : Bool) (lqi : Lqi), s.fault = false →
    (s.mailbox.frame.fcsOk = false → exec (.rxFrame inj lqi) s = .next (emitted [.trace .rxFcsDrop] s)) ∧
      (s.mailbox.frame.fcsOk = true → s.cfg.dropEn = true → inj = true →
        (s.mailbox.frame.header, s.mailbox.frame.metadata) ∈ s.cfg.injOn →
        exec (.rxFrame inj lqi) s = .next (emitted [.trace .rxInjDrop] s))

/-- R184 to R192: the sniffers see the frame, and the first failing step of the filter decides; in promiscuous mode only
step 1 is applied. A frame that passes the steps applied gets no `T_RX_FILTER_DROP`. -/
def Obligations.FilterRejectsAtTheFirstFailingStep : Prop :=
  ∀ (s : State) (inj : Bool) (lqi : Lqi), s.fault = false → reachesFilter inj s →
    let f := s.mailbox.frame
    let h := f.header
    let rejectedAt := fun n => exec (.rxFrame inj lqi) s = .next (emitted (sniffs f s ++ [.trace (.rxFilterDrop n)]) s)
    let passed := ∃ t new, exec (.rxFrame inj lqi) s = .next t ∧ t.out = s.out ++ sniffs f s ++ new ∧
      ∀ n, Action.trace (.rxFilterDrop n) ∉ new
    (¬passesStep1 h s → rejectedAt 1) ∧
      (s.promisc = true → passesStep1 h s → passed) ∧
      (s.promisc = false → passesStep1 h s →
        (¬passesStep2 h s → rejectedAt 2) ∧
        (passesStep2 h s → ¬passesStep3 h s → rejectedAt 3) ∧
        (passesStep2 h s → passesStep3 h s → ¬passesStep4 h s → rejectedAt 4) ∧
        (passesStep2 h s → passesStep3 h s → passesStep4 h s → ¬passesStep5 h s → rejectedAt 5) ∧
        (passesStep2 h s → passesStep3 h s → passesStep4 h s → passesStep5 h s → ¬passesStep6 h s → rejectedAt 6) ∧
        (passesStep2 h s → passesStep3 h s → passesStep4 h s → passesStep5 h s → passesStep6 h s → passed))

/-- R196: an accepted beacon is traced and nothing else. -/
def Obligations.AcceptedBeaconIsOnlyTraced : Prop :=
  ∀ (s : State) (inj : Bool) (lqi : Lqi),
    s.fault = false → reachesFilter inj s → accepted s.mailbox.frame.header s → s.mailbox.frame.header.ftype = .beacon →
      exec (.rxFrame inj lqi) s = .next (emitted (sniffs s.mailbox.frame s ++ [.trace .rxBeacon]) s)

/-- R195, R192: an RX_FRAME emits an `Indication`, of that frame, exactly when the frame reaches the filter, is accepted,
is a data frame and is tagged `Data` or not at all. -/
def Obligations.OnlyAcceptedUntaggedDataIsIndicated : Prop :=
  ∀ (s t : State) (inj : Bool) (lqi : Lqi) (new : List Action),
    exec (.rxFrame inj lqi) s = .next t → t.out = s.out ++ new →
      let f := s.mailbox.frame
      ((∃ a ∈ new, isIndication a = true) ↔
        reachesFilter inj s ∧ accepted f.header s ∧ f.header.ftype = .data ∧
          (f.metadata.tag = .data ∨ f.metadata.tag = .untagged)) ∧
        ∀ a ∈ new, isIndication a = true → [a] = frameClosing lqi f

/-- R145, R194: a frame to the broadcast short address never elicits an acknowledgment: RX_FRAME of it asks for no
transmit-on and does not enter `Sending`. -/
def Obligations.BroadcastFrameElicitsNoAck : Prop :=
  ∀ (s t : State) (inj : Bool) (lqi : Lqi) (new : List Action),
    broadcastFrame s.mailbox.frame.header s → exec (.rxFrame inj lqi) s = .next t → t.out = s.out ++ new →
      Action.trxRequest .txOn ∉ new ∧ (t.ms = .sending → s.ms = .sending)

/-- The frame of RX_FRAME, in every form (R180 to R239): it writes no parameter, no identity register, not `DSN`, not
`FAULT`, none of the presented events, not the mailbox, no energy sample and no recorded ACK-wait duration; it queues
nothing and pops at most the head; in `Sending` it changes only the outputs (R198). -/
def Obligations.ReceivedFrameFrame : Prop :=
  ∀ (s t : State) (inj : Bool) (lqi : Lqi),
    exec (.rxFrame inj lqi) s = .next t →
      t.cfg = s.cfg ∧ t.dsn = s.dsn ∧ t.fault = s.fault ∧ t.shortAddr = s.shortAddr ∧ t.panId = s.panId ∧
        t.extAddrLo = s.extAddrLo ∧ t.extAddrHi = s.extAddrHi ∧ t.promisc = s.promisc ∧ t.mailbox = s.mailbox ∧
        t.pending = s.pending ∧ t.free = s.free ∧ t.ackw.dur = s.ackw.dur ∧ t.hs.e1 = s.hs.e1 ∧ t.hs.e2 = s.hs.e2 ∧
        (t.txq = s.txq ∨ t.txq = s.txq.tail) ∧
        (s.ms = .sending → t = { s with out := t.out })

/-! ### RX_FRAME: acknowledgments -/

/-- R218, R122, R123, R120: the awaited acknowledgment confirms the head frame with success. -/
def Obligations.MatchingAckConfirmsTheFrame : Prop :=
  ∀ (s : State) (inj : Bool) (lqi : Lqi) (e : OutFrame) (rest : List OutFrame),
    s.fault = false → reachesFilter inj s → accepted s.mailbox.frame.header s → s.mailbox.frame.header.ftype = .ack →
      s.ms = .ackPending → s.mailbox.frame.header.seq = s.iff.seq → s.txq = e :: rest →
      exec (.rxFrame inj lqi) s =
        .next (idleEntered (slotCleared (headReleased e rest (ackWaitCancelled
          (emitted (sniffs s.mailbox.frame s ++ confirmed e .success ++
            [.trace (.ackOk s.mailbox.frame.header.seq)]) s)))))

/-- R219, R220: an acknowledgment with another sequence number is treated as a timeout; one outside `AckPending` is only
traced. -/
def Obligations.OtherAckIsATimeoutOrUnexpected : Prop :=
  ∀ (s : State) (inj : Bool) (lqi : Lqi),
    s.fault = false → reachesFilter inj s → accepted s.mailbox.frame.header s → s.mailbox.frame.header.ftype = .ack →
      (∀ (e : OutFrame) (rest : List OutFrame),
        s.ms = .ackPending → s.mailbox.frame.header.seq ≠ s.iff.seq → s.txq = e :: rest →
          exec (.rxFrame inj lqi) s =
            .next (idleEntered (ackLost e rest (emitted (sniffs s.mailbox.frame s ++
              [.trace (.rxAckMismatch s.mailbox.frame.header.seq)]) s)))) ∧
        (s.ms ≠ .ackPending →
          exec (.rxFrame inj lqi) s =
            .next (emitted (sniffs s.mailbox.frame s ++
              [.trace (.rxAckUnexpected s.mailbox.frame.header.seq)]) s))

/-- R194, R214 to R216, R132: an accepted data or command frame that asks for an acknowledgment and is not broadcast is
acknowledged from every state but `Sending`: the current wait is left, the schedule cancelled, and the slot holds the ACK,
which is not queued and takes no sequence number; a handshake tag is then only traced. -/
def Obligations.OwedAckIsSentFirst : Prop :=
  ∀ (s : State) (inj : Bool) (lqi : Lqi),
    s.fault = false → reachesFilter inj s → accepted s.mailbox.frame.header s →
      (s.mailbox.frame.header.ftype = .data ∨ s.mailbox.frame.header.ftype = .command) →
      s.mailbox.frame.header.ackreq = true → ¬broadcastFrame s.mailbox.frame.header s →
      s.ms ≠ .sending → (s.ms = .ackPending → s.txq ≠ []) →
      let f := s.mailbox.frame
      let skipped := if f.metadata.tag = .rfe ∨ f.metadata.tag = .cfe ∨ f.metadata.tag = .cfeAck ∨ f.metadata.tag = .energy
        then [Action.trace (.hsSkippedForAck f.metadata.tag)] else []
      let ack : OutFrame :=
        { frame := Codec.buildAck f.header.seq, handle := 0#8, tag := .ack, ackreq := false, seq := f.header.seq,
          origin := .ackgen }
      exec (.rxFrame inj lqi) s =
        .next (emitted (frameClosing lqi f)
          (sendingEntered ack false (scheduleCancelled (waitLeft (emitted (sniffs f s ++ skipped) s)))))

/-- R198, R195, R197: while `Sending` no acknowledgment and no reaction, only traces and the indication. -/
def Obligations.FrameWhileSendingChangesNoState : Prop :=
  ∀ (s : State) (inj : Bool) (lqi : Lqi),
    s.fault = false → reachesFilter inj s → accepted s.mailbox.frame.header s →
      (s.mailbox.frame.header.ftype = .data ∨ s.mailbox.frame.header.ftype = .command) → s.ms = .sending →
      ∀ suppressed violation : List Action,
        (s.mailbox.frame.header.ackreq = true ∧ ¬broadcastFrame s.mailbox.frame.header s ∧
            suppressed = [.trace (.ackSuppressed s.mailbox.frame.header.seq)]) ∨
          ((s.mailbox.frame.header.ackreq = false ∨ broadcastFrame s.mailbox.frame.header s) ∧ suppressed = []) →
        (handshakeTag s.mailbox.frame.metadata.tag ∧ violation = [.trace (.rxViolation s.mailbox.frame.metadata.tag)]) ∨
          (¬handshakeTag s.mailbox.frame.metadata.tag ∧ violation = []) →
        exec (.rxFrame inj lqi) s =
          .next (emitted (sniffs s.mailbox.frame s ++ suppressed ++ violation ++ frameClosing lqi s.mailbox.frame) s)

/-- R194, R195, R197: an accepted data or command frame with no acknowledgment owed and no handshake tag changes no state. -/
def Obligations.PlainFrameOnlyIndicates : Prop :=
  ∀ (s : State) (inj : Bool) (lqi : Lqi),
    s.fault = false → reachesFilter inj s → accepted s.mailbox.frame.header s →
      (s.mailbox.frame.header.ftype = .data ∨ s.mailbox.frame.header.ftype = .command) →
      (s.mailbox.frame.header.ackreq = false ∨ broadcastFrame s.mailbox.frame.header s) →
      ¬handshakeTag s.mailbox.frame.metadata.tag →
      exec (.rxFrame inj lqi) s =
        .next (emitted (sniffs s.mailbox.frame s ++ frameClosing lqi s.mailbox.frame) s)

/-! ### RX_FRAME: the handshake. In each, an accepted tagged frame with no acknowledgment owed, outside `Sending`. -/

/-- R231, R232: an EnergyDonor answers an RFE of group 1 or 2 with a source address: the schedule and the current wait are
left, `Idle` forced, the requester recorded, a CFE scheduled; any other RFE is a violation and changes nothing. -/
def Obligations.DonorSchedulesACfeForAnRfe : Prop :=
  ∀ (s : State) (inj : Bool) (lqi : Lqi),
    s.fault = false → reachesFilter inj s → accepted s.mailbox.frame.header s →
      (s.mailbox.frame.header.ftype = .data ∨ s.mailbox.frame.header.ftype = .command) →
      (s.mailbox.frame.header.ackreq = false ∨ broadcastFrame s.mailbox.frame.header s) →
      s.mailbox.frame.metadata.tag = .rfe → s.cfg.role = .energyDonor → s.ms ≠ .sending →
      (s.ms = .ackPending → s.txq ≠ []) →
      let f := s.mailbox.frame
      let good := (f.metadata.group = 1#8 ∨ f.metadata.group = 2#8) ∧ (f.header.srcMode = .short ∨ f.header.srcMode = .extended)
      (good →
        exec (.rxFrame inj lqi) s =
          .next (emitted ([.trace (.hsRfeDonor f.metadata.group)] ++ frameClosing lqi f)
            { requesterRecorded f (idleForced (waitLeft (scheduleCancelled (emitted (sniffs f s) s)))) with
              sce := { pending := true, action := .emitCfe,
                       delay := if f.metadata.group = 1#8 then 0#32 else s.cfg.group2Delay } })) ∧
      (¬good →
        exec (.rxFrame inj lqi) s =
          .next (emitted (sniffs f s ++ [.trace (.rxViolation .rfe)] ++ frameClosing lqi f) s))

/-- R233, R234: a Sensor freezes on an RFE in `Idle`, `ChannelAccess` or `EnergyPending`; in the other waits it is a
violation. The frozen frame stays queued with its retry count. -/
def Obligations.SensorFreezesOnAnRfe : Prop :=
  ∀ (s : State) (inj : Bool) (lqi : Lqi),
    s.fault = false → reachesFilter inj s → accepted s.mailbox.frame.header s →
      (s.mailbox.frame.header.ftype = .data ∨ s.mailbox.frame.header.ftype = .command) →
      (s.mailbox.frame.header.ackreq = false ∨ broadcastFrame s.mailbox.frame.header s) →
      s.mailbox.frame.metadata.tag = .rfe → s.cfg.role = .sensor →
      let f := s.mailbox.frame
      ((s.ms = .idle ∨ s.ms = .channelAccess ∨ s.ms = .energyPending) →
        exec (.rxFrame inj lqi) s =
          .next (emitted (sniffs f s ++ (if s.arbRun then [.arbCancel] else []) ++ [.trace .hsRfeSensor] ++
              frameClosing lqi f)
            { requesterRecorded f (scheduleCancelled s) with
              ms := .energyPending, arbRun := false, hsw := { armed := s.cfg.hsTimeoutEn } })) ∧
      ((s.ms = .ackPending ∨ s.ms = .cfePending ∨ s.ms = .cfeAckPending) →
        exec (.rxFrame inj lqi) s =
          .next (emitted (sniffs f s ++ [.trace (.rxViolation .rfe)] ++ frameClosing lqi f) s))

/-- R235, R236: a Sensor records the announced destination of a CFE and changes nothing else; for an EnergyDonor a CFE is
a violation. -/
def Obligations.SensorRecordsTheAnnouncedTarget : Prop :=
  ∀ (s : State) (inj : Bool) (lqi : Lqi),
    s.fault = false → reachesFilter inj s → accepted s.mailbox.frame.header s →
      (s.mailbox.frame.header.ftype = .data ∨ s.mailbox.frame.header.ftype = .command) →
      (s.mailbox.frame.header.ackreq = false ∨ broadcastFrame s.mailbox.frame.header s) →
      s.mailbox.frame.metadata.tag = .cfe → s.ms ≠ .sending →
      let f := s.mailbox.frame
      (s.cfg.role = .sensor →
        exec (.rxFrame inj lqi) s =
          .next (emitted (sniffs f s ++ [.trace .hsCfeRecorded] ++ frameClosing lqi f)
            { s with hs := { s.hs with
                annValid := true, annMode := f.header.dstMode, annAddr := f.header.dstAddr, annPan := f.header.dstPan } })) ∧
      (s.cfg.role = .energyDonor →
        exec (.rxFrame inj lqi) s =
          .next (emitted (sniffs f s ++ [.trace (.rxViolation .cfe)] ++ frameClosing lqi f) s))

/-- R237, R239: a CFE-ACK is honoured in `CfeAckPending`, and by an EnergyDonor in `CfePending`: its duration is stored and
an ENERGY emission scheduled with delay 0; anywhere else it is a violation. -/
def Obligations.CfeAckSchedulesTheEnergyPulse : Prop :=
  ∀ (s : State) (inj : Bool) (lqi : Lqi),
    s.fault = false → reachesFilter inj s → accepted s.mailbox.frame.header s →
      (s.mailbox.frame.header.ftype = .data ∨ s.mailbox.frame.header.ftype = .command) →
      (s.mailbox.frame.header.ackreq = false ∨ broadcastFrame s.mailbox.frame.header s) →
      s.mailbox.frame.metadata.tag = .cfeAck → s.ms ≠ .sending →
      let f := s.mailbox.frame
      let honoured := s.ms = .cfeAckPending ∨ (s.ms = .cfePending ∧ s.cfg.role = .energyDonor)
      (honoured →
        exec (.rxFrame inj lqi) s =
          .next (emitted (sniffs f s ++ [.trace (.hsCfeAck f.metadata.duration)] ++ frameClosing lqi f)
            { s with
              hs := { s.hs with duration := f.metadata.duration }
              sce := { pending := true, action := .emitEnergy, delay := 0#32 } })) ∧
      (¬honoured →
        exec (.rxFrame inj lqi) s =
          .next (emitted (sniffs f s ++ [.trace (.rxViolation .cfeAck)] ++ frameClosing lqi f) s))

/-- R238: an observed ENERGY frame clears the context and nothing else. -/
def Obligations.ObservedEnergyFrameClearsTheContext : Prop :=
  ∀ (s : State) (inj : Bool) (lqi : Lqi),
    s.fault = false → reachesFilter inj s → accepted s.mailbox.frame.header s →
      (s.mailbox.frame.header.ftype = .data ∨ s.mailbox.frame.header.ftype = .command) →
      (s.mailbox.frame.header.ackreq = false ∨ broadcastFrame s.mailbox.frame.header s) →
      s.mailbox.frame.metadata.tag = .energy → s.ms ≠ .sending →
      exec (.rxFrame inj lqi) s =
        .next (emitted (sniffs s.mailbox.frame s ++ [.trace .hsEnergySeen] ++ frameClosing lqi s.mailbox.frame)
          (contextCleared s))

/-! ### The timers and the energy samples -/

/-- R210, R212, R120: an armed AckWaitTimer's expiry retries the head frame or gives it up, and returns to receive-on
idle; a stale expiry is only traced. -/
def Obligations.AckWaitExpiryRetriesOrGivesUp : Prop :=
  ∀ s : State, s.fault = false →
    (∀ (e : OutFrame) (rest : List OutFrame), s.ackw.armed = true → s.txq = e :: rest →
      exec .ackwaitFire s = .next (idleEntered (ackLost e rest s))) ∧
      (s.ackw.armed = false → exec .ackwaitFire s = .next (emitted [.trace (.staleEvent 0x7#4)] s))

/-- R210, R212, R121, R213: what a retry is, written out: with retries left the same frame goes back to channel access, its
bytes and sequence number unchanged, and nothing is confirmed. -/
def Obligations.RetryKeepsTheFrameQueued : Prop :=
  ∀ s t : State,
    s.fault = false → Invariants s → s.ackw.armed = true → s.sce.pending = false →
      s.retryCnt < s.cfg.maxFrameRetries → exec .ackwaitFire s = .next t →
      t.ms = .channelAccess ∧ t.txq = s.txq ∧ t.txq.head? = some (slotRecord s.iff) ∧
        t.retryCnt = s.retryCnt + 1 ∧ t.ackw.armed = false ∧ t.iff.valid = false ∧ t.arbRun = true ∧ t.dsn = s.dsn ∧
        endedHandles (t.out.drop s.out.length) = []

/-- R241, R244: a slot-1 sample is stored; a slot-3 sample is only traced. -/
def Obligations.FirstSlotSampleIsStored : Prop :=
  ∀ s : State, s.fault = false →
    exec (.energySample 1#3) s =
        .next (emitted [.trace (.hsSample 1#3 s.mailbox.energy)]
          { s with hs := { s.hs with e1 := s.mailbox.energy, e1Valid := true } }) ∧
      exec (.energySample 3#3) s = .next (emitted [.trace (.hsSample 3#3 s.mailbox.energy)] s)

/-- R242, R248: a slot-2 sample at the addressed target with a stored first sample schedules a CFE-ACK with the floor of the
quotient, or nothing when both samples are 0; anywhere else only the sample is stored. The sum does not wrap. -/
def Obligations.SecondSlotSampleSchedulesTheCfeAck : Prop :=
  ∀ s : State, s.fault = false →
    let target := s.hs.annValid = true ∧ s.hs.annPan = s.panId ∧
      ((s.hs.annMode = .short ∧ s.hs.annAddr.setWidth 16 = s.shortAddr) ∨
        (s.hs.annMode = .extended ∧ s.hs.annAddr = s.extAddrHi ++ s.extAddrLo))
    let stored := { s.hs with e2 := s.mailbox.energy }
    let sample := Action.trace (.hsSample 2#3 s.mailbox.energy)
    let sum := s.hs.e1.toNat + s.mailbox.energy.toNat
    (¬(target ∧ s.hs.e1Valid = true) →
      exec (.energySample 2#3) s = .next (emitted [sample] { s with hs := stored })) ∧
    (target → s.hs.e1Valid = true → sum = 0 →
      exec (.energySample 2#3) s =
        .next (emitted [sample, .trace .hsDivZero] { s with hs := { stored with e1Valid := false } })) ∧
    (target → s.hs.e1Valid = true → sum ≠ 0 →
      ∃ d : Duration, d.toNat = s.cfg.requiredEnergy.toNat / sum ∧
        exec (.energySample 2#3) s =
          .next (emitted [sample]
            { s with
              hs := { stored with e1Valid := false, duration := d }
              sce := { pending := true, action := .emitCfeAck, delay := s.cfg.cfeAckDelay } }))

/-- R243: a slot-0 sample in `EnergyPending` is indicated, ends the handshake and returns to receive-on idle; in any other
state it is only traced. -/
def Obligations.TotalSampleEndsTheEnergyWait : Prop :=
  ∀ s : State, s.fault = false →
    (s.ms = .energyPending →
      exec (.energySample 0#3) s =
        .next (idleEntered (slotCleared (contextCleared (scheduleCancelled
          (emitted [.trace (.hsSample 0#3 s.mailbox.energy), .energyIndication s.mailbox.energy,
            .trace (.hsDone s.mailbox.energy)] { s with hsw := { armed := false } }))))) ) ∧
      (s.ms ≠ .energyPending →
        exec (.energySample 0#3) s = .next (emitted [.trace (.hsSample 0#3 s.mailbox.energy)] s))

/-- R245, R246, R121: an SCE_FIRE with nothing scheduled is stale and only traced; a CFE whose context is gone is not
emitted, the current wait is left all the same, and channel access starts for a queued frame. -/
def Obligations.SceFireWithNothingToEmit : Prop :=
  ∀ s : State, s.fault = false →
    (s.sce.pending = false → exec .sceFire s = .next (emitted [.trace (.staleEvent 0x8#4)] s)) ∧
      (Invariants s → s.sce.pending = true → s.ms ≠ .sending → s.sce.action = .emitCfe → s.hs.valid = false →
        exec .sceFire s =
          .next (queueChecked (emitted [.trace (.hsAborted .idle)] (idleForced (waitLeft (scheduleCancelled s))))))

/-- R245 to R247, R121: a scheduled action fires from any state but `Sending`: the current wait is left, `Idle` forced, the
handshake frame built with the next sequence number and queued (at the front, or at the back when the instance says so) or
dropped with a trace when the queue is full, and channel access starts for a queued frame. -/
def Obligations.ScheduledActionQueuesItsHandshakeFrame : Prop :=
  ∀ (s : State) (p : HsParams),
    s.fault = false → Invariants s → s.sce.pending = true → s.ms ≠ .sending →
      (s.sce.action = .emitCfe ∧ s.hs.valid = true ∧
          p = { tag := .cfe, dstPan := s.hs.reqPan, dstMode := s.hs.reqMode, dstAddr := s.hs.reqAddr,
                src := { short := s.shortAddr, ext := s.extAddrHi ++ s.extAddrLo, pan := s.panId },
                metadata := { tag := .cfe, duration := 0#32, group := s.hs.group } }) ∨
        (s.sce.action = .emitCfeAck ∧
          p = { tag := .cfeAck, dstPan := s.panId, dstMode := .short, dstAddr := s.cfg.bcastShort.setWidth 64,
                src := { short := s.shortAddr, ext := s.extAddrHi ++ s.extAddrLo, pan := s.panId },
                metadata := { tag := .cfeAck, duration := s.hs.duration, group := 0#8 } }) ∨
        (s.sce.action = .emitEnergy ∧
          p = { tag := .energy, dstPan := s.panId, dstMode := .short, dstAddr := s.cfg.bcastShort.setWidth 64,
                src := { short := s.shortAddr, ext := s.extAddrHi ++ s.extAddrLo, pan := s.panId },
                metadata := { tag := .energy, duration := s.hs.duration, group := 0#8 } }) →
      let left := idleForced (waitLeft (scheduleCancelled s))
      let entry : OutFrame :=
        { frame := Codec.buildHs p s.dsn, handle := 0#8, tag := p.tag, ackreq := false, seq := s.dsn, origin := .internal }
      let full := s.cfg.txqDepth = some left.txq.length
      (¬full →
        exec .sceFire s =
          .next (queueChecked (emitted [.trace (.hsEmit p.tag)]
            { left with
              dsn := s.dsn + 1#8
              txq := if s.cfg.hsInsertFront = true then entry :: left.txq else left.txq ++ [entry] }))) ∧
      (full → exec .sceFire s = .next (queueChecked (emitted [.trace (.hsQueueFull p.tag)] left)))

/-- R249: an armed handshake timer's expiry ends the wait without a confirmation; a stale expiry is only traced. -/
def Obligations.HandshakeTimeoutEndsTheWait : Prop :=
  ∀ s : State, s.fault = false →
    (s.hsw.armed = true →
      exec .hswaitFire s =
        .next (idleEntered (slotCleared (contextCleared (scheduleCancelled
          (emitted [.trace .hsTimeout] { s with hsw := { armed := false } })))))) ∧
      (s.hsw.armed = false → exec .hswaitFire s = .next (emitted [.trace (.staleEvent 0x9#4)] s))
end

