-- ==== Sys2Proof/Laws/Decode.lean ====
section
/-! SUPPORT. The small lemmas of the encoding tables: each operand's code is read back, and where each field of an encoded
word lies (spec/30_encoding.md R90 to R98). -/

namespace Sys2Proof

@[simp] theorem Tag.ofBits_bits (t : Tag) : Tag.ofBits t.bits = t := by cases t <;> rfl

@[simp] theorem Tag.bits_ofBits (b : BitVec 3) : (Tag.ofBits b).bits = b := by revert b; decide

@[simp] theorem AddrMode.ofBits_bits (m : AddrMode) : AddrMode.ofBits m.bits = m := by cases m <;> rfl

@[simp] theorem AddrMode.bits_ofBits (b : BitVec 2) : (AddrMode.ofBits b).bits = b := by revert b; decide

@[simp] theorem TxOpt.ofBits_bits (o : TxOpt) : TxOpt.ofBits o.bits = o := by
  cases o with
  | mk ack gts indirect => cases ack <;> cases gts <;> cases indirect <;> rfl

@[simp] theorem TxOpt.bits_ofBits (b : BitVec 3) : (TxOpt.ofBits b).bits = b := by revert b; decide

/-- A field that lies wholly in the upper part of a word. -/
theorem slice_of_upper {n m : Nat} (a : BitVec n) (b : BitVec m) (w : EventWord) (hn : n + m = 32)
    (hw : w = (a ++ b).cast hn) (lo len : Nat) (hlo : m ≤ lo) : slice w lo len = a.extractLsb' (lo - m) len := by
  subst hw
  apply BitVec.eq_of_getLsbD_eq
  intro i _
  have hupper : ¬lo + i < m := by omega
  have hindex : lo + i - m = lo - m + i := by omega
  simp [slice, BitVec.getLsbD_append, hupper, hindex]

/-- A field that lies wholly in the lower part of a word. -/
theorem slice_of_lower {n m : Nat} (a : BitVec n) (b : BitVec m) (w : EventWord) (hn : n + m = 32)
    (hw : w = (a ++ b).cast hn) (lo len : Nat) (hlo : lo + len ≤ m) : slice w lo len = b.extractLsb' lo len := by
  subst hw
  apply BitVec.eq_of_getLsbD_eq
  intro i hi
  have hlower : lo + i < m := by omega
  simp [slice, BitVec.getLsbD_append, hlower]

/-- The number of a field is a quotient and a remainder of the number of the word. -/
theorem slice_toNat (w : EventWord) (lo len : Nat) : (slice w lo len).toNat = w.toNat / 2 ^ lo % 2 ^ len := by
  simp [slice, Nat.shiftRight_eq_div_pow]

end Sys2Proof
end

