-- ==== Sys2Proof/Laws/Ledger.lean ====
section
/-! SUPPORT. What each action and event does to the environment's ledger, and which of them can make an
answer late (spec/70_reset_and_hazards.md R311, R312). -/

namespace Sys2Proof.Safety

open Sys2Proof.Machine

variable (l : Ledger)

@[simp] theorem overtaken_trx : l.overtaken.trx = l.trx.map fun owed => { owed with late := true } := rfl
@[simp] theorem overtaken_tx : l.overtaken.tx = l.tx := rfl
@[simp] theorem overtaken_arb : l.overtaken.arb = l.arb := rfl

theorem overtaken_late (owed : OwedAnswer) (h : owed ∈ l.overtaken.trx) : owed.late = true := by
  obtain ⟨_, _, rfl⟩ := List.mem_map.1 h
  rfl

@[simp] theorem requested_tx (state : TrxState) : (l.requested state).tx = l.tx := by cases state <;> rfl
@[simp] theorem requested_arb (state : TrxState) : (l.requested state).arb = l.arb := by cases state <;> rfl

@[simp] theorem requested_rxOn_trx :
    (l.requested .rxOn).trx = l.trx ++ [{ state := .rxOn, late := false }] := rfl

@[simp] theorem requested_txOn_trx :
    (l.requested .txOn).trx = l.overtaken.trx ++ [{ state := .txOn, late := false }] := rfl

@[simp] theorem after_nil (i : Instr) : l.after i [] = l.answered i := rfl

@[simp] theorem after_append (i : Instr) (acts more : List Action) :
    l.after i (acts ++ more) = more.foldl Ledger.observe (l.after i acts) := by
  simp [Ledger.after]

/-- No answer that is owed is late. -/
def Prompt (l : Ledger) : Prop := ∀ owed ∈ l.trx, owed.late = false

/-- R312's first way: an action other than a transmit-on request, and a transmit-on request emitted with nothing
unanswered, make no answer late. -/
theorem observe_prompt {l : Ledger} {a : Action} (h : Prompt l) (ha : l.trx = [] ∨ a ≠ .trxRequest .txOn) :
    Prompt (l.observe a) := by
  cases a with
  | trxRequest state =>
    cases state with
    | txOn =>
      have hnil : l.trx = [] := ha.resolve_right (fun hne => hne rfl)
      intro owed hmem
      simp [Ledger.observe, hnil] at hmem
      simp [hmem]
    | rxOn | trxOff =>
      intro owed hmem
      rcases List.mem_append.1 hmem with hmem | hmem
      · exact h owed hmem
      · simp [List.mem_singleton.1 hmem]
  | confirm | indication | energyIndication | txRequest | arbStart | arbCancel | faultReport | sniff | promiscSniff
    | trace => exact h

/-- Only an event that starts or ends a transmission can make an answer late: after any other, a radio that owed no late
answer owes none, and `OwedAnswer.answeredBy` admits both of R311's codes. -/
theorem after_prompt {l : Ledger} {i : Instr} {acts : List Action} (h : Prompt l) (hi : ∀ code, i ≠ .txConf code)
    (hacts : Action.trxRequest .txOn ∉ acts) : Prompt (l.after i acts) := by
  have answered : Prompt (l.answered i) := by
    cases i with
    | trxConf code => exact fun owed hmem => h owed (List.mem_of_mem_tail hmem)
    | txConf code => exact absurd rfl (hi code)
    | submit | ccaConf | rxFrame | energySample | ackwaitFire | sceFire | hswaitFire | cfgWrite => exact h
  unfold Ledger.after
  clear h hi
  generalize l.answered i = m at answered
  induction acts generalizing m with
  | nil => exact answered
  | cons a rest ih =>
    obtain ⟨ha, hrest⟩ : a ≠ .trxRequest .txOn ∧ Action.trxRequest .txOn ∉ rest := by
      simpa [eq_comm] using hacts
    exact ih hrest _ (observe_prompt answered (.inr ha))

end Sys2Proof.Safety
end

