-- ==== Sys2Proof/Laws/State.lean ====
section
/-! SUPPORT. One lemma per field per update of State by a primitive operation, each true by definition, so that no later
proof unfolds a record update. -/

namespace Sys2Proof.Machine

variable (s : State)

/-! ### emit -/

@[simp] theorem emit_cfg (a : Action) : (emit a s).cfg = s.cfg := rfl
@[simp] theorem emit_ms (a : Action) : (emit a s).ms = s.ms := rfl
@[simp] theorem emit_fault (a : Action) : (emit a s).fault = s.fault := rfl
@[simp] theorem emit_arbRun (a : Action) : (emit a s).arbRun = s.arbRun := rfl
@[simp] theorem emit_txIssued (a : Action) : (emit a s).txIssued = s.txIssued := rfl
@[simp] theorem emit_retryCnt (a : Action) : (emit a s).retryCnt = s.retryCnt := rfl
@[simp] theorem emit_ccaCnt (a : Action) : (emit a s).ccaCnt = s.ccaCnt := rfl
@[simp] theorem emit_dsn (a : Action) : (emit a s).dsn = s.dsn := rfl
@[simp] theorem emit_iff (a : Action) : (emit a s).iff = s.iff := rfl
@[simp] theorem emit_txq (a : Action) : (emit a s).txq = s.txq := rfl
@[simp] theorem emit_hs (a : Action) : (emit a s).hs = s.hs := rfl
@[simp] theorem emit_shortAddr (a : Action) : (emit a s).shortAddr = s.shortAddr := rfl
@[simp] theorem emit_panId (a : Action) : (emit a s).panId = s.panId := rfl
@[simp] theorem emit_extAddrLo (a : Action) : (emit a s).extAddrLo = s.extAddrLo := rfl
@[simp] theorem emit_extAddrHi (a : Action) : (emit a s).extAddrHi = s.extAddrHi := rfl
@[simp] theorem emit_promisc (a : Action) : (emit a s).promisc = s.promisc := rfl
@[simp] theorem emit_ackw (a : Action) : (emit a s).ackw = s.ackw := rfl
@[simp] theorem emit_sce (a : Action) : (emit a s).sce = s.sce := rfl
@[simp] theorem emit_hsw (a : Action) : (emit a s).hsw = s.hsw := rfl
@[simp] theorem emit_mailbox (a : Action) : (emit a s).mailbox = s.mailbox := rfl
@[simp] theorem emit_pending (a : Action) : (emit a s).pending = s.pending := rfl
@[simp] theorem emit_out (a : Action) : (emit a s).out = s.out ++ [a] := rfl
@[simp] theorem emit_free (a : Action) : (emit a s).free = s.free := rfl

/-! ### trace -/

@[simp] theorem trace_cfg (t : TraceEvent) : (trace t s).cfg = s.cfg := rfl
@[simp] theorem trace_ms (t : TraceEvent) : (trace t s).ms = s.ms := rfl
@[simp] theorem trace_fault (t : TraceEvent) : (trace t s).fault = s.fault := rfl
@[simp] theorem trace_arbRun (t : TraceEvent) : (trace t s).arbRun = s.arbRun := rfl
@[simp] theorem trace_txIssued (t : TraceEvent) : (trace t s).txIssued = s.txIssued := rfl
@[simp] theorem trace_retryCnt (t : TraceEvent) : (trace t s).retryCnt = s.retryCnt := rfl
@[simp] theorem trace_ccaCnt (t : TraceEvent) : (trace t s).ccaCnt = s.ccaCnt := rfl
@[simp] theorem trace_dsn (t : TraceEvent) : (trace t s).dsn = s.dsn := rfl
@[simp] theorem trace_iff (t : TraceEvent) : (trace t s).iff = s.iff := rfl
@[simp] theorem trace_txq (t : TraceEvent) : (trace t s).txq = s.txq := rfl
@[simp] theorem trace_hs (t : TraceEvent) : (trace t s).hs = s.hs := rfl
@[simp] theorem trace_shortAddr (t : TraceEvent) : (trace t s).shortAddr = s.shortAddr := rfl
@[simp] theorem trace_panId (t : TraceEvent) : (trace t s).panId = s.panId := rfl
@[simp] theorem trace_extAddrLo (t : TraceEvent) : (trace t s).extAddrLo = s.extAddrLo := rfl
@[simp] theorem trace_extAddrHi (t : TraceEvent) : (trace t s).extAddrHi = s.extAddrHi := rfl
@[simp] theorem trace_promisc (t : TraceEvent) : (trace t s).promisc = s.promisc := rfl
@[simp] theorem trace_ackw (t : TraceEvent) : (trace t s).ackw = s.ackw := rfl
@[simp] theorem trace_sce (t : TraceEvent) : (trace t s).sce = s.sce := rfl
@[simp] theorem trace_hsw (t : TraceEvent) : (trace t s).hsw = s.hsw := rfl
@[simp] theorem trace_mailbox (t : TraceEvent) : (trace t s).mailbox = s.mailbox := rfl
@[simp] theorem trace_pending (t : TraceEvent) : (trace t s).pending = s.pending := rfl
@[simp] theorem trace_out (t : TraceEvent) : (trace t s).out = s.out ++ [.trace t] := rfl
@[simp] theorem trace_free (t : TraceEvent) : (trace t s).free = s.free := rfl

/-! ### pushBack -/

@[simp] theorem pushBack_cfg (e : OutFrame) : (pushBack e s).cfg = s.cfg := rfl
@[simp] theorem pushBack_ms (e : OutFrame) : (pushBack e s).ms = s.ms := rfl
@[simp] theorem pushBack_fault (e : OutFrame) : (pushBack e s).fault = s.fault := rfl
@[simp] theorem pushBack_arbRun (e : OutFrame) : (pushBack e s).arbRun = s.arbRun := rfl
@[simp] theorem pushBack_txIssued (e : OutFrame) : (pushBack e s).txIssued = s.txIssued := rfl
@[simp] theorem pushBack_retryCnt (e : OutFrame) : (pushBack e s).retryCnt = s.retryCnt := rfl
@[simp] theorem pushBack_ccaCnt (e : OutFrame) : (pushBack e s).ccaCnt = s.ccaCnt := rfl
@[simp] theorem pushBack_dsn (e : OutFrame) : (pushBack e s).dsn = s.dsn := rfl
@[simp] theorem pushBack_iff (e : OutFrame) : (pushBack e s).iff = s.iff := rfl
@[simp] theorem pushBack_txq (e : OutFrame) : (pushBack e s).txq = s.txq ++ [e] := rfl
@[simp] theorem pushBack_hs (e : OutFrame) : (pushBack e s).hs = s.hs := rfl
@[simp] theorem pushBack_shortAddr (e : OutFrame) : (pushBack e s).shortAddr = s.shortAddr := rfl
@[simp] theorem pushBack_panId (e : OutFrame) : (pushBack e s).panId = s.panId := rfl
@[simp] theorem pushBack_extAddrLo (e : OutFrame) : (pushBack e s).extAddrLo = s.extAddrLo := rfl
@[simp] theorem pushBack_extAddrHi (e : OutFrame) : (pushBack e s).extAddrHi = s.extAddrHi := rfl
@[simp] theorem pushBack_promisc (e : OutFrame) : (pushBack e s).promisc = s.promisc := rfl
@[simp] theorem pushBack_ackw (e : OutFrame) : (pushBack e s).ackw = s.ackw := rfl
@[simp] theorem pushBack_sce (e : OutFrame) : (pushBack e s).sce = s.sce := rfl
@[simp] theorem pushBack_hsw (e : OutFrame) : (pushBack e s).hsw = s.hsw := rfl
@[simp] theorem pushBack_mailbox (e : OutFrame) : (pushBack e s).mailbox = s.mailbox := rfl
@[simp] theorem pushBack_pending (e : OutFrame) : (pushBack e s).pending = s.pending := rfl
@[simp] theorem pushBack_out (e : OutFrame) : (pushBack e s).out = s.out := rfl
@[simp] theorem pushBack_free (e : OutFrame) : (pushBack e s).free = s.free := rfl

/-! ### pushFront -/

@[simp] theorem pushFront_cfg (e : OutFrame) : (pushFront e s).cfg = s.cfg := rfl
@[simp] theorem pushFront_ms (e : OutFrame) : (pushFront e s).ms = s.ms := rfl
@[simp] theorem pushFront_fault (e : OutFrame) : (pushFront e s).fault = s.fault := rfl
@[simp] theorem pushFront_arbRun (e : OutFrame) : (pushFront e s).arbRun = s.arbRun := rfl
@[simp] theorem pushFront_txIssued (e : OutFrame) : (pushFront e s).txIssued = s.txIssued := rfl
@[simp] theorem pushFront_retryCnt (e : OutFrame) : (pushFront e s).retryCnt = s.retryCnt := rfl
@[simp] theorem pushFront_ccaCnt (e : OutFrame) : (pushFront e s).ccaCnt = s.ccaCnt := rfl
@[simp] theorem pushFront_dsn (e : OutFrame) : (pushFront e s).dsn = s.dsn := rfl
@[simp] theorem pushFront_iff (e : OutFrame) : (pushFront e s).iff = s.iff := rfl
@[simp] theorem pushFront_txq (e : OutFrame) : (pushFront e s).txq = e :: s.txq := rfl
@[simp] theorem pushFront_hs (e : OutFrame) : (pushFront e s).hs = s.hs := rfl
@[simp] theorem pushFront_shortAddr (e : OutFrame) : (pushFront e s).shortAddr = s.shortAddr := rfl
@[simp] theorem pushFront_panId (e : OutFrame) : (pushFront e s).panId = s.panId := rfl
@[simp] theorem pushFront_extAddrLo (e : OutFrame) : (pushFront e s).extAddrLo = s.extAddrLo := rfl
@[simp] theorem pushFront_extAddrHi (e : OutFrame) : (pushFront e s).extAddrHi = s.extAddrHi := rfl
@[simp] theorem pushFront_promisc (e : OutFrame) : (pushFront e s).promisc = s.promisc := rfl
@[simp] theorem pushFront_ackw (e : OutFrame) : (pushFront e s).ackw = s.ackw := rfl
@[simp] theorem pushFront_sce (e : OutFrame) : (pushFront e s).sce = s.sce := rfl
@[simp] theorem pushFront_hsw (e : OutFrame) : (pushFront e s).hsw = s.hsw := rfl
@[simp] theorem pushFront_mailbox (e : OutFrame) : (pushFront e s).mailbox = s.mailbox := rfl
@[simp] theorem pushFront_pending (e : OutFrame) : (pushFront e s).pending = s.pending := rfl
@[simp] theorem pushFront_out (e : OutFrame) : (pushFront e s).out = s.out := rfl
@[simp] theorem pushFront_free (e : OutFrame) : (pushFront e s).free = s.free := rfl

/-! ### popFront -/

@[simp] theorem popFront_cfg : (popFront s).cfg = s.cfg := rfl
@[simp] theorem popFront_ms : (popFront s).ms = s.ms := rfl
@[simp] theorem popFront_fault : (popFront s).fault = s.fault := rfl
@[simp] theorem popFront_arbRun : (popFront s).arbRun = s.arbRun := rfl
@[simp] theorem popFront_txIssued : (popFront s).txIssued = s.txIssued := rfl
@[simp] theorem popFront_retryCnt : (popFront s).retryCnt = s.retryCnt := rfl
@[simp] theorem popFront_ccaCnt : (popFront s).ccaCnt = s.ccaCnt := rfl
@[simp] theorem popFront_dsn : (popFront s).dsn = s.dsn := rfl
@[simp] theorem popFront_iff : (popFront s).iff = s.iff := rfl
@[simp] theorem popFront_txq : (popFront s).txq = s.txq.tail := rfl
@[simp] theorem popFront_hs : (popFront s).hs = s.hs := rfl
@[simp] theorem popFront_shortAddr : (popFront s).shortAddr = s.shortAddr := rfl
@[simp] theorem popFront_panId : (popFront s).panId = s.panId := rfl
@[simp] theorem popFront_extAddrLo : (popFront s).extAddrLo = s.extAddrLo := rfl
@[simp] theorem popFront_extAddrHi : (popFront s).extAddrHi = s.extAddrHi := rfl
@[simp] theorem popFront_promisc : (popFront s).promisc = s.promisc := rfl
@[simp] theorem popFront_ackw : (popFront s).ackw = s.ackw := rfl
@[simp] theorem popFront_sce : (popFront s).sce = s.sce := rfl
@[simp] theorem popFront_hsw : (popFront s).hsw = s.hsw := rfl
@[simp] theorem popFront_mailbox : (popFront s).mailbox = s.mailbox := rfl
@[simp] theorem popFront_pending : (popFront s).pending = s.pending := rfl
@[simp] theorem popFront_out : (popFront s).out = s.out := rfl
@[simp] theorem popFront_free : (popFront s).free = s.free := rfl

/-! ### iffClear -/

@[simp] theorem iffClear_cfg : (iffClear s).cfg = s.cfg := rfl
@[simp] theorem iffClear_ms : (iffClear s).ms = s.ms := rfl
@[simp] theorem iffClear_fault : (iffClear s).fault = s.fault := rfl
@[simp] theorem iffClear_arbRun : (iffClear s).arbRun = s.arbRun := rfl
@[simp] theorem iffClear_txIssued : (iffClear s).txIssued = s.txIssued := rfl
@[simp] theorem iffClear_retryCnt : (iffClear s).retryCnt = s.retryCnt := rfl
@[simp] theorem iffClear_ccaCnt : (iffClear s).ccaCnt = s.ccaCnt := rfl
@[simp] theorem iffClear_dsn : (iffClear s).dsn = s.dsn := rfl
@[simp] theorem iffClear_iff : (iffClear s).iff = { s.iff with valid := false, inQueue := false } := rfl
@[simp] theorem iffClear_txq : (iffClear s).txq = s.txq := rfl
@[simp] theorem iffClear_hs : (iffClear s).hs = s.hs := rfl
@[simp] theorem iffClear_shortAddr : (iffClear s).shortAddr = s.shortAddr := rfl
@[simp] theorem iffClear_panId : (iffClear s).panId = s.panId := rfl
@[simp] theorem iffClear_extAddrLo : (iffClear s).extAddrLo = s.extAddrLo := rfl
@[simp] theorem iffClear_extAddrHi : (iffClear s).extAddrHi = s.extAddrHi := rfl
@[simp] theorem iffClear_promisc : (iffClear s).promisc = s.promisc := rfl
@[simp] theorem iffClear_ackw : (iffClear s).ackw = s.ackw := rfl
@[simp] theorem iffClear_sce : (iffClear s).sce = s.sce := rfl
@[simp] theorem iffClear_hsw : (iffClear s).hsw = s.hsw := rfl
@[simp] theorem iffClear_mailbox : (iffClear s).mailbox = s.mailbox := rfl
@[simp] theorem iffClear_pending : (iffClear s).pending = s.pending := rfl
@[simp] theorem iffClear_out : (iffClear s).out = s.out := rfl
@[simp] theorem iffClear_free : (iffClear s).free = s.free := rfl

/-! ### ackwCancel -/

@[simp] theorem ackwCancel_cfg : (ackwCancel s).cfg = s.cfg := rfl
@[simp] theorem ackwCancel_ms : (ackwCancel s).ms = s.ms := rfl
@[simp] theorem ackwCancel_fault : (ackwCancel s).fault = s.fault := rfl
@[simp] theorem ackwCancel_arbRun : (ackwCancel s).arbRun = s.arbRun := rfl
@[simp] theorem ackwCancel_txIssued : (ackwCancel s).txIssued = s.txIssued := rfl
@[simp] theorem ackwCancel_retryCnt : (ackwCancel s).retryCnt = s.retryCnt := rfl
@[simp] theorem ackwCancel_ccaCnt : (ackwCancel s).ccaCnt = s.ccaCnt := rfl
@[simp] theorem ackwCancel_dsn : (ackwCancel s).dsn = s.dsn := rfl
@[simp] theorem ackwCancel_iff : (ackwCancel s).iff = s.iff := rfl
@[simp] theorem ackwCancel_txq : (ackwCancel s).txq = s.txq := rfl
@[simp] theorem ackwCancel_hs : (ackwCancel s).hs = s.hs := rfl
@[simp] theorem ackwCancel_shortAddr : (ackwCancel s).shortAddr = s.shortAddr := rfl
@[simp] theorem ackwCancel_panId : (ackwCancel s).panId = s.panId := rfl
@[simp] theorem ackwCancel_extAddrLo : (ackwCancel s).extAddrLo = s.extAddrLo := rfl
@[simp] theorem ackwCancel_extAddrHi : (ackwCancel s).extAddrHi = s.extAddrHi := rfl
@[simp] theorem ackwCancel_promisc : (ackwCancel s).promisc = s.promisc := rfl
@[simp] theorem ackwCancel_ackw : (ackwCancel s).ackw = { s.ackw with armed := false } := rfl
@[simp] theorem ackwCancel_sce : (ackwCancel s).sce = s.sce := rfl
@[simp] theorem ackwCancel_hsw : (ackwCancel s).hsw = s.hsw := rfl
@[simp] theorem ackwCancel_mailbox : (ackwCancel s).mailbox = s.mailbox := rfl
@[simp] theorem ackwCancel_pending : (ackwCancel s).pending = s.pending := rfl
@[simp] theorem ackwCancel_out : (ackwCancel s).out = s.out := rfl
@[simp] theorem ackwCancel_free : (ackwCancel s).free = s.free := rfl

/-! ### hsClear -/

@[simp] theorem hsClear_cfg : (hsClear s).cfg = s.cfg := rfl
@[simp] theorem hsClear_ms : (hsClear s).ms = s.ms := rfl
@[simp] theorem hsClear_fault : (hsClear s).fault = s.fault := rfl
@[simp] theorem hsClear_arbRun : (hsClear s).arbRun = s.arbRun := rfl
@[simp] theorem hsClear_txIssued : (hsClear s).txIssued = s.txIssued := rfl
@[simp] theorem hsClear_retryCnt : (hsClear s).retryCnt = s.retryCnt := rfl
@[simp] theorem hsClear_ccaCnt : (hsClear s).ccaCnt = s.ccaCnt := rfl
@[simp] theorem hsClear_dsn : (hsClear s).dsn = s.dsn := rfl
@[simp] theorem hsClear_iff : (hsClear s).iff = s.iff := rfl
@[simp] theorem hsClear_txq : (hsClear s).txq = s.txq := rfl
@[simp] theorem hsClear_hs : (hsClear s).hs = { s.hs with valid := false, annValid := false, e1Valid := false } := rfl
@[simp] theorem hsClear_shortAddr : (hsClear s).shortAddr = s.shortAddr := rfl
@[simp] theorem hsClear_panId : (hsClear s).panId = s.panId := rfl
@[simp] theorem hsClear_extAddrLo : (hsClear s).extAddrLo = s.extAddrLo := rfl
@[simp] theorem hsClear_extAddrHi : (hsClear s).extAddrHi = s.extAddrHi := rfl
@[simp] theorem hsClear_promisc : (hsClear s).promisc = s.promisc := rfl
@[simp] theorem hsClear_ackw : (hsClear s).ackw = s.ackw := rfl
@[simp] theorem hsClear_sce : (hsClear s).sce = s.sce := rfl
@[simp] theorem hsClear_hsw : (hsClear s).hsw = s.hsw := rfl
@[simp] theorem hsClear_mailbox : (hsClear s).mailbox = s.mailbox := rfl
@[simp] theorem hsClear_pending : (hsClear s).pending = s.pending := rfl
@[simp] theorem hsClear_out : (hsClear s).out = s.out := rfl
@[simp] theorem hsClear_free : (hsClear s).free = s.free := rfl

/-! ### sceSchedule -/

@[simp] theorem sceSchedule_cfg (action : SceAction) (delay : Delay) : (sceSchedule action delay s).cfg = s.cfg := rfl
@[simp] theorem sceSchedule_ms (action : SceAction) (delay : Delay) : (sceSchedule action delay s).ms = s.ms := rfl
@[simp] theorem sceSchedule_fault (action : SceAction) (delay : Delay) : (sceSchedule action delay s).fault = s.fault := rfl
@[simp] theorem sceSchedule_arbRun (action : SceAction) (delay : Delay) : (sceSchedule action delay s).arbRun = s.arbRun := rfl
@[simp] theorem sceSchedule_txIssued (action : SceAction) (delay : Delay) : (sceSchedule action delay s).txIssued = s.txIssued := rfl
@[simp] theorem sceSchedule_retryCnt (action : SceAction) (delay : Delay) : (sceSchedule action delay s).retryCnt = s.retryCnt := rfl
@[simp] theorem sceSchedule_ccaCnt (action : SceAction) (delay : Delay) : (sceSchedule action delay s).ccaCnt = s.ccaCnt := rfl
@[simp] theorem sceSchedule_dsn (action : SceAction) (delay : Delay) : (sceSchedule action delay s).dsn = s.dsn := rfl
@[simp] theorem sceSchedule_iff (action : SceAction) (delay : Delay) : (sceSchedule action delay s).iff = s.iff := rfl
@[simp] theorem sceSchedule_txq (action : SceAction) (delay : Delay) : (sceSchedule action delay s).txq = s.txq := rfl
@[simp] theorem sceSchedule_hs (action : SceAction) (delay : Delay) : (sceSchedule action delay s).hs = s.hs := rfl
@[simp] theorem sceSchedule_shortAddr (action : SceAction) (delay : Delay) : (sceSchedule action delay s).shortAddr = s.shortAddr := rfl
@[simp] theorem sceSchedule_panId (action : SceAction) (delay : Delay) : (sceSchedule action delay s).panId = s.panId := rfl
@[simp] theorem sceSchedule_extAddrLo (action : SceAction) (delay : Delay) : (sceSchedule action delay s).extAddrLo = s.extAddrLo := rfl
@[simp] theorem sceSchedule_extAddrHi (action : SceAction) (delay : Delay) : (sceSchedule action delay s).extAddrHi = s.extAddrHi := rfl
@[simp] theorem sceSchedule_promisc (action : SceAction) (delay : Delay) : (sceSchedule action delay s).promisc = s.promisc := rfl
@[simp] theorem sceSchedule_ackw (action : SceAction) (delay : Delay) : (sceSchedule action delay s).ackw = s.ackw := rfl
@[simp] theorem sceSchedule_sce (action : SceAction) (delay : Delay) : (sceSchedule action delay s).sce = { pending := true, action, delay } := rfl
@[simp] theorem sceSchedule_hsw (action : SceAction) (delay : Delay) : (sceSchedule action delay s).hsw = s.hsw := rfl
@[simp] theorem sceSchedule_mailbox (action : SceAction) (delay : Delay) : (sceSchedule action delay s).mailbox = s.mailbox := rfl
@[simp] theorem sceSchedule_pending (action : SceAction) (delay : Delay) : (sceSchedule action delay s).pending = s.pending := rfl
@[simp] theorem sceSchedule_out (action : SceAction) (delay : Delay) : (sceSchedule action delay s).out = s.out := rfl
@[simp] theorem sceSchedule_free (action : SceAction) (delay : Delay) : (sceSchedule action delay s).free = s.free := rfl

/-! ### sceCancel -/

@[simp] theorem sceCancel_cfg : (sceCancel s).cfg = s.cfg := rfl
@[simp] theorem sceCancel_ms : (sceCancel s).ms = s.ms := rfl
@[simp] theorem sceCancel_fault : (sceCancel s).fault = s.fault := rfl
@[simp] theorem sceCancel_arbRun : (sceCancel s).arbRun = s.arbRun := rfl
@[simp] theorem sceCancel_txIssued : (sceCancel s).txIssued = s.txIssued := rfl
@[simp] theorem sceCancel_retryCnt : (sceCancel s).retryCnt = s.retryCnt := rfl
@[simp] theorem sceCancel_ccaCnt : (sceCancel s).ccaCnt = s.ccaCnt := rfl
@[simp] theorem sceCancel_dsn : (sceCancel s).dsn = s.dsn := rfl
@[simp] theorem sceCancel_iff : (sceCancel s).iff = s.iff := rfl
@[simp] theorem sceCancel_txq : (sceCancel s).txq = s.txq := rfl
@[simp] theorem sceCancel_hs : (sceCancel s).hs = s.hs := rfl
@[simp] theorem sceCancel_shortAddr : (sceCancel s).shortAddr = s.shortAddr := rfl
@[simp] theorem sceCancel_panId : (sceCancel s).panId = s.panId := rfl
@[simp] theorem sceCancel_extAddrLo : (sceCancel s).extAddrLo = s.extAddrLo := rfl
@[simp] theorem sceCancel_extAddrHi : (sceCancel s).extAddrHi = s.extAddrHi := rfl
@[simp] theorem sceCancel_promisc : (sceCancel s).promisc = s.promisc := rfl
@[simp] theorem sceCancel_ackw : (sceCancel s).ackw = s.ackw := rfl
@[simp] theorem sceCancel_sce : (sceCancel s).sce = { s.sce with pending := false } := rfl
@[simp] theorem sceCancel_hsw : (sceCancel s).hsw = s.hsw := rfl
@[simp] theorem sceCancel_mailbox : (sceCancel s).mailbox = s.mailbox := rfl
@[simp] theorem sceCancel_pending : (sceCancel s).pending = s.pending := rfl
@[simp] theorem sceCancel_out : (sceCancel s).out = s.out := rfl
@[simp] theorem sceCancel_free : (sceCancel s).free = s.free := rfl

/-! ### hswCancel -/

@[simp] theorem hswCancel_cfg : (hswCancel s).cfg = s.cfg := rfl
@[simp] theorem hswCancel_ms : (hswCancel s).ms = s.ms := rfl
@[simp] theorem hswCancel_fault : (hswCancel s).fault = s.fault := rfl
@[simp] theorem hswCancel_arbRun : (hswCancel s).arbRun = s.arbRun := rfl
@[simp] theorem hswCancel_txIssued : (hswCancel s).txIssued = s.txIssued := rfl
@[simp] theorem hswCancel_retryCnt : (hswCancel s).retryCnt = s.retryCnt := rfl
@[simp] theorem hswCancel_ccaCnt : (hswCancel s).ccaCnt = s.ccaCnt := rfl
@[simp] theorem hswCancel_dsn : (hswCancel s).dsn = s.dsn := rfl
@[simp] theorem hswCancel_iff : (hswCancel s).iff = s.iff := rfl
@[simp] theorem hswCancel_txq : (hswCancel s).txq = s.txq := rfl
@[simp] theorem hswCancel_hs : (hswCancel s).hs = s.hs := rfl
@[simp] theorem hswCancel_shortAddr : (hswCancel s).shortAddr = s.shortAddr := rfl
@[simp] theorem hswCancel_panId : (hswCancel s).panId = s.panId := rfl
@[simp] theorem hswCancel_extAddrLo : (hswCancel s).extAddrLo = s.extAddrLo := rfl
@[simp] theorem hswCancel_extAddrHi : (hswCancel s).extAddrHi = s.extAddrHi := rfl
@[simp] theorem hswCancel_promisc : (hswCancel s).promisc = s.promisc := rfl
@[simp] theorem hswCancel_ackw : (hswCancel s).ackw = s.ackw := rfl
@[simp] theorem hswCancel_sce : (hswCancel s).sce = s.sce := rfl
@[simp] theorem hswCancel_hsw : (hswCancel s).hsw = { armed := false } := rfl
@[simp] theorem hswCancel_mailbox : (hswCancel s).mailbox = s.mailbox := rfl
@[simp] theorem hswCancel_pending : (hswCancel s).pending = s.pending := rfl
@[simp] theorem hswCancel_out : (hswCancel s).out = s.out := rfl
@[simp] theorem hswCancel_free : (hswCancel s).free = s.free := rfl

/-! ### present -/

@[simp] theorem present_cfg (ev : PortEvent) (rest : List PortEvent) : (present ev rest s).cfg = s.cfg := rfl
@[simp] theorem present_ms (ev : PortEvent) (rest : List PortEvent) : (present ev rest s).ms = s.ms := rfl
@[simp] theorem present_fault (ev : PortEvent) (rest : List PortEvent) : (present ev rest s).fault = s.fault := rfl
@[simp] theorem present_arbRun (ev : PortEvent) (rest : List PortEvent) : (present ev rest s).arbRun = s.arbRun := rfl
@[simp] theorem present_txIssued (ev : PortEvent) (rest : List PortEvent) : (present ev rest s).txIssued = s.txIssued := rfl
@[simp] theorem present_retryCnt (ev : PortEvent) (rest : List PortEvent) : (present ev rest s).retryCnt = s.retryCnt := rfl
@[simp] theorem present_ccaCnt (ev : PortEvent) (rest : List PortEvent) : (present ev rest s).ccaCnt = s.ccaCnt := rfl
@[simp] theorem present_dsn (ev : PortEvent) (rest : List PortEvent) : (present ev rest s).dsn = s.dsn := rfl
@[simp] theorem present_iff (ev : PortEvent) (rest : List PortEvent) : (present ev rest s).iff = s.iff := rfl
@[simp] theorem present_txq (ev : PortEvent) (rest : List PortEvent) : (present ev rest s).txq = s.txq := rfl
@[simp] theorem present_hs (ev : PortEvent) (rest : List PortEvent) : (present ev rest s).hs = s.hs := rfl
@[simp] theorem present_shortAddr (ev : PortEvent) (rest : List PortEvent) : (present ev rest s).shortAddr = s.shortAddr := rfl
@[simp] theorem present_panId (ev : PortEvent) (rest : List PortEvent) : (present ev rest s).panId = s.panId := rfl
@[simp] theorem present_extAddrLo (ev : PortEvent) (rest : List PortEvent) : (present ev rest s).extAddrLo = s.extAddrLo := rfl
@[simp] theorem present_extAddrHi (ev : PortEvent) (rest : List PortEvent) : (present ev rest s).extAddrHi = s.extAddrHi := rfl
@[simp] theorem present_promisc (ev : PortEvent) (rest : List PortEvent) : (present ev rest s).promisc = s.promisc := rfl
@[simp] theorem present_ackw (ev : PortEvent) (rest : List PortEvent) : (present ev rest s).ackw = s.ackw := rfl
@[simp] theorem present_sce (ev : PortEvent) (rest : List PortEvent) : (present ev rest s).sce = s.sce := rfl
@[simp] theorem present_hsw (ev : PortEvent) (rest : List PortEvent) : (present ev rest s).hsw = s.hsw := rfl
@[simp] theorem present_mailbox (ev : PortEvent) (rest : List PortEvent) : (present ev rest s).mailbox = ev.mailbox := rfl
@[simp] theorem present_pending (ev : PortEvent) (rest : List PortEvent) : (present ev rest s).pending = rest := rfl
@[simp] theorem present_out (ev : PortEvent) (rest : List PortEvent) : (present ev rest s).out = s.out := rfl
@[simp] theorem present_free (ev : PortEvent) (rest : List PortEvent) : (present ev rest s).free = s.free + 1 := rfl

end Sys2Proof.Machine
end

