-- ==== Sys2Proof/Laws/Ops.lean ====
section
/-! SUPPORT. One lemma per shared operation that says everything it can do, for later proofs to cite, and the laws of the
Codec (spec/00_scope.md R12). -/

namespace Sys2Proof.Machine

/-! ### The Codec's laws -/

/-- L1. -/
theorem codec_law1 (p : SubmitParams) (q : HsParams) (seq : SeqNo) (payload : List Byte) :
    (Codec.serialize p seq payload).fcsOk = true ∧ (Codec.buildAck seq).fcsOk = true ∧
      (Codec.buildHs q seq).fcsOk = true :=
  ⟨rfl, rfl, rfl⟩

/-- L2. -/
theorem codec_law2 (seq : SeqNo) :
    (Codec.buildAck seq).header.ftype = .ack ∧ (Codec.buildAck seq).header.seq = seq ∧
      (Codec.buildAck seq).header.ackreq = false ∧ (Codec.buildAck seq).header.dstMode = .noAddress ∧
      (Codec.buildAck seq).header.srcMode = .noAddress ∧ (Codec.buildAck seq).header.dstPanPresent = false :=
  ⟨rfl, rfl, rfl, rfl, rfl, rfl⟩

/-- L3, sequence number, acknowledgment bit and modes. -/
theorem codec_law3 (p : SubmitParams) (seq : SeqNo) (payload : List Byte) :
    (Codec.serialize p seq payload).header.seq = seq ∧ (Codec.serialize p seq payload).header.ackreq = p.ackEff ∧
      (Codec.serialize p seq payload).header.dstMode = p.dstMode ∧
      (Codec.serialize p seq payload).header.srcMode = p.srcMode :=
  ⟨rfl, rfl, rfl, rfl⟩

/-- L4. -/
theorem codec_law4 (p : SubmitParams) (q : HsParams) (seq : SeqNo) (payload : List Byte) :
    (Codec.serialize p seq payload).metadata = p.metadata ∧ (Codec.buildHs q seq).metadata = q.metadata :=
  ⟨rfl, rfl⟩

/-! ### The queue's head -/

@[simp] theorem queueHead_cons {s : State} {e : OutFrame} {q : List OutFrame} (h : s.txq = e :: q) : queueHead s = e := by
  simp [queueHead, h]

/-- The head depends on the queue and the counter only. -/
theorem queueHead_congr {s t : State} (hq : t.txq = s.txq) (hf : t.free = s.free) : queueHead t = queueHead s := by
  simp [queueHead, hq, hf]

@[simp] theorem queueHead_emit (a : Action) (s : State) : queueHead (emit a s) = queueHead s := rfl

@[simp] theorem queueHead_trace (t : TraceEvent) (s : State) : queueHead (trace t s) = queueHead s := rfl

@[simp] theorem queueHead_ackwCancel (s : State) : queueHead (ackwCancel s) = queueHead s := rfl

/-! ### Conditional operations: their cases -/

/-- R121: `CheckQueue` starts the Arbiter, or does nothing. -/
theorem checkQueue_cases (s : State) :
    (s.ms = .idle ∧ s.txq ≠ [] ∧ s.iff.valid = false ∧ s.sce.pending = false ∧
      checkQueue s =
        { s with
          ms := .channelAccess, arbRun := true, ccaCnt := saturatingNext s.ccaCnt,
          out := s.out ++ [.arbStart, .trace (.arbStart (saturatingNext s.ccaCnt))] }) ∨
    (¬(s.ms = .idle ∧ s.txq ≠ [] ∧ s.iff.valid = false ∧ s.sce.pending = false) ∧ checkQueue s = s) := by
  unfold checkQueue
  split
  · next h => exact .inl ⟨h.1, h.2.1, h.2.2.1, h.2.2.2, by simp [emit, trace]⟩
  · next h => exact .inr ⟨h, rfl⟩

/-- R120: `EnterIdle` ends in `Idle` with nothing started, or in `ChannelAccess`. -/
theorem enterIdle_cases (s : State) :
    (s.txq ≠ [] ∧ s.iff.valid = false ∧ s.sce.pending = false ∧
      enterIdle s =
        { s with
          ms := .channelAccess, arbRun := true, ccaCnt := saturatingNext s.ccaCnt,
          out := s.out ++ [.trxRequest .rxOn, .arbStart, .trace (.arbStart (saturatingNext s.ccaCnt))] }) ∨
    (¬(s.txq ≠ [] ∧ s.iff.valid = false ∧ s.sce.pending = false) ∧
      enterIdle s = { s with ms := .idle, out := s.out ++ [.trxRequest .rxOn] }) := by
  unfold enterIdle
  rcases checkQueue_cases (emit (.trxRequest .rxOn) { s with ms := .idle }) with
    ⟨_, hq, hv, hp, h⟩ | ⟨hn, h⟩
  · exact .inl ⟨hq, hv, hp, by rw [h]; simp [emit]⟩
  · exact .inr ⟨fun hc => hn ⟨rfl, hc⟩, by rw [h]; rfl⟩

/-- R125: `ArbCancel` acts only on a running Arbiter. -/
theorem arbCancel_cases (s : State) :
    (s.arbRun = true ∧ arbCancel s = { s with arbRun := false, out := s.out ++ [.arbCancel] }) ∨
    (s.arbRun = false ∧ arbCancel s = s) := by
  unfold arbCancel
  split
  · next h => exact .inl ⟨h, rfl⟩
  · next h => exact .inr ⟨by simpa using h, rfl⟩

/-- R129: `HswArm` acts only with the timeout enabled. -/
theorem hswArm_cases (s : State) :
    (s.cfg.hsTimeoutEn = true ∧ hswArm s = { s with hsw := { armed := true } }) ∨
    (s.cfg.hsTimeoutEn = false ∧ hswArm s = s) := by
  unfold hswArm
  split
  · next h => exact .inl ⟨h, rfl⟩
  · next h => exact .inr ⟨by simpa using h, rfl⟩

/-- `Idle` is entered unless the block is there. -/
theorem forceIdle_cases (s : State) :
    (s.ms = .idle ∧ forceIdle s = s) ∨
    (s.ms ≠ .idle ∧ forceIdle s = { s with ms := .idle, out := s.out ++ [.trxRequest .rxOn] }) := by
  unfold forceIdle
  split
  · next h => exact .inl ⟨h, rfl⟩
  · next h => exact .inr ⟨h, rfl⟩

/-- R122: `ConfirmHead` confirms an upper-layer head. -/
theorem confirmHead_cases (status : Status) (s : State) :
    ((queueHead s).origin = .upstream ∧
      confirmHead status s = { s with out := s.out ++ [.confirm (queueHead s).handle status] }) ∨
    ((queueHead s).origin ≠ .upstream ∧ confirmHead status s = s) := by
  unfold confirmHead
  split
  · next h => exact .inl ⟨h, rfl⟩
  · next h => exact .inr ⟨h, rfl⟩

/-- R123: `RemoveHead` pops, and resets the counters for an upper-layer head. -/
theorem removeHead_cases (s : State) :
    ((queueHead s).origin = .upstream ∧
      removeHead s = { s with txq := s.txq.tail, retryCnt := 0, ccaCnt := 0#16 }) ∨
    ((queueHead s).origin ≠ .upstream ∧ removeHead s = { s with txq := s.txq.tail }) := by
  unfold removeHead
  split
  · next h => exact .inl ⟨h, rfl⟩
  · next h => exact .inr ⟨h, rfl⟩

/-- R212: one more retry, or the head is dropped; either way the timer and the slot are cleared. -/
theorem prepareRetransmission_cases (s : State) :
    (s.retryCnt < s.cfg.maxFrameRetries ∧
      prepareRetransmission s =
        { s with
          ackw := { s.ackw with armed := false }, iff := { s.iff with valid := false, inQueue := false },
          retryCnt := s.retryCnt + 1, out := s.out ++ [.trace (.retry (s.retryCnt + 1))] }) ∨
    (¬s.retryCnt < s.cfg.maxFrameRetries ∧ (queueHead s).origin = .upstream ∧
      prepareRetransmission s =
        { s with
          ackw := { s.ackw with armed := false }, iff := { s.iff with valid := false, inQueue := false },
          txq := s.txq.tail, retryCnt := 0, ccaCnt := 0#16,
          out := s.out ++ [.confirm (queueHead s).handle .noAcknowledgment, .trace (.noackDrop (queueHead s).handle)] }) ∨
    (¬s.retryCnt < s.cfg.maxFrameRetries ∧ (queueHead s).origin ≠ .upstream ∧
      prepareRetransmission s =
        { s with
          ackw := { s.ackw with armed := false }, iff := { s.iff with valid := false, inQueue := false },
          txq := s.txq.tail, out := s.out ++ [.trace (.noackDrop (queueHead s).handle)] }) := by
  by_cases hr : s.retryCnt < s.cfg.maxFrameRetries
  · exact .inl ⟨hr, by simp [prepareRetransmission, hr, iffClear, ackwCancel, trace, emit]⟩
  · by_cases ho : (queueHead s).origin = .upstream
    · refine .inr (.inl ⟨hr, ho, ?_⟩)
      have hh : queueHead (ackwCancel s) = queueHead s := rfl
      simp only [prepareRetransmission, ackwCancel_retryCnt, ackwCancel_cfg, hr, if_false, confirmHead, hh, ho, if_true,
        removeHead, queueHead_trace, queueHead_emit]
      simp [iffClear, trace, emit, popFront, ackwCancel]
    · refine .inr (.inr ⟨hr, ho, ?_⟩)
      have hh : queueHead (ackwCancel s) = queueHead s := rfl
      simp only [prepareRetransmission, ackwCancel_retryCnt, ackwCancel_cfg, hr, if_false, confirmHead, hh, ho,
        removeHead, queueHead_trace]
      simp [iffClear, trace, emit, popFront, ackwCancel]

/-- R131, written out. -/
theorem enterSending_eq (e : OutFrame) (inQueue : Bool) (s : State) :
    enterSending e inQueue s =
      { s with
        iff := { valid := true, frame := e.frame, tag := e.tag, ackreq := e.ackreq, seq := e.seq, handle := e.handle,
                 origin := e.origin, inQueue := inQueue }
        txIssued := false, ms := .sending
        out := s.out ++ [.trxRequest .txOn, .trace (.txBegin e.tag e.seq)] } := by
  simp [enterSending, emit, trace]

/-- R132, one equation per row. -/
theorem abandonCurrent_idle {s : State} (h : s.ms = .idle) : abandonCurrent s = s := by simp [abandonCurrent, h]

theorem abandonCurrent_sending {s : State} (h : s.ms = .sending) : abandonCurrent s = s := by simp [abandonCurrent, h]

theorem abandonCurrent_channelAccess {s : State} (h : s.ms = .channelAccess) : abandonCurrent s = arbCancel s := by
  simp [abandonCurrent, h]

theorem abandonCurrent_ackPending {s : State} (h : s.ms = .ackPending) :
    abandonCurrent s = prepareRetransmission s := by
  simp [abandonCurrent, h]

theorem abandonCurrent_wait {s : State} (h : isHandshakeWait s.ms = true) :
    abandonCurrent s =
      { s with
        hsw := { armed := false }, iff := { s.iff with valid := false, inQueue := false },
        out := s.out ++ (if s.iff.valid then [.trace (.hsAborted s.ms)] else []) } := by
  cases hv : s.iff.valid <;>
    (cases hm : s.ms <;>
      simp_all [isHandshakeWait, abandonCurrent, iffClear, hswCancel, trace, emit])

/-- R274: the fatal entry, written out. -/
theorem fatal_eq (reason : FatalReason) (code : BitVec 3) (s : State) :
    fatal reason code s =
      { s with
        fault := true, arbRun := false, txIssued := false, ms := .idle,
        ackw := { s.ackw with armed := false }, sce := { s.sce with pending := false }, hsw := { armed := false },
        hs := { s.hs with valid := false, annValid := false, e1Valid := false },
        iff := { s.iff with valid := false, inQueue := false },
        out := s.out ++ (if s.arbRun then [.arbCancel] else []) ++
          [.trxRequest .rxOn, .faultReport reason s.ms code, .trace (.fatal reason)] } := by
  cases ha : s.arbRun <;>
    simp [fatal, arbCancel, ackwCancel, sceCancel, hswCancel, hsClear, iffClear, emit, trace, ha]

/-! ### The event port -/

/-- What is taken is one of the presented events, and nothing is lost. -/
theorem takeAcceptable_perm {waiting : List Source} {s : State} {q rest : List PortEvent} {found : PortEvent}
    (h : takeAcceptable waiting s q = some (found, rest)) : (found :: rest).Perm q := by
  induction q generalizing waiting rest with
  | nil => simp [takeAcceptable] at h
  | cons ev q ih =>
    simp only [takeAcceptable] at h
    split at h
    · simp only [Option.some.injEq, Prod.mk.injEq] at h
      obtain ⟨rfl, rfl⟩ := h
      exact List.Perm.refl _
    · next src _ =>
      simp only [Option.map_eq_some_iff] at h
      obtain ⟨⟨f, r⟩, htake, heq⟩ := h
      simp only [Prod.mk.injEq] at heq
      obtain ⟨rfl, rfl⟩ := heq
      exact (List.Perm.swap ev f r).trans ((ih htake).cons ev)

/-- A hold changes the presented events only, and by their order only, the held event being one of them. -/
theorem hold_spec (i : Instr) (s : State) :
    hold i s = { s with pending := (hold i s).pending } ∧
      (hold i s).pending.Perm ({ word := encode i, mailbox := s.mailbox } :: s.pending) := by
  refine ⟨rfl, ?_⟩
  simp only [hold]
  split
  · next found rest h =>
    exact (List.Perm.swap _ found rest).trans ((takeAcceptable_perm h).cons _)
  · exact List.Perm.refl _

/-! ### Accepting -/

@[simp] theorem accept_running {s : State} (h : s.fault = false) (t : State) : accept s t = .next t := by
  simp [accept, h]

@[simp] theorem accept_halted {s : State} (h : s.fault = true) (t : State) : accept s t = .fault .halted := by
  simp [accept, h]

theorem accept_eq_next {s t u : State} : accept s t = .next u ↔ s.fault = false ∧ t = u := by
  unfold accept
  cases s.fault <;> simp

end Sys2Proof.Machine
end

