-- ==== Sys2Proof/Laws/PerInstr.lean ====
section
/-! SUPPORT. The family `OpcodeOfEncoding`: bits 31:28 of an event's word are the opcode the map of spec/30_encoding.md R91
gives it. -/

namespace Sys2Proof.Laws.OpcodeOfEncoding

/-- The opcode map of R91. -/
def opcode : Instr → BitVec 4
  | .submit _ _ _ _ _ _ => 0x1#4
  | .ccaConf _ => 0x2#4
  | .trxConf _ => 0x3#4
  | .txConf _ => 0x4#4
  | .rxFrame _ _ => 0x5#4
  | .energySample _ => 0x6#4
  | .ackwaitFire => 0x7#4
  | .sceFire => 0x8#4
  | .hswaitFire => 0x9#4
  | .cfgWrite _ => 0xA#4

/-- Bits 31:28 of the word are the opcode. -/
def Statement (i : Instr) : Prop := slice (encode i) 28 4 = opcode i

theorem submit (handle : Handle) (tag : Tag) (txopt : TxOpt) (srcMode dstMode : AddrMode) (low : BitVec 10) :
    Statement (.submit handle tag txopt srcMode dstMode low) := by
  apply BitVec.eq_of_getLsbD_eq
  intro i hi
  simp only [slice, encode, opcode, BitVec.getLsbD_extractLsb', BitVec.getLsbD_append]
  interval_cases i <;> simp

theorem ccaConf (code : BitVec 3) : Statement (.ccaConf code) := by
  revert code; unfold Statement; decide

theorem trxConf (code : BitVec 3) : Statement (.trxConf code) := by
  revert code; unfold Statement; decide

theorem txConf (code : BitVec 3) : Statement (.txConf code) := by
  revert code; unfold Statement; decide

theorem rxFrame (inj : Bool) (lqi : Lqi) : Statement (.rxFrame inj lqi) := by
  apply BitVec.eq_of_getLsbD_eq
  intro i hi
  simp only [slice, encode, opcode, BitVec.getLsbD_extractLsb', BitVec.getLsbD_append]
  interval_cases i <;> simp

theorem energySample (slot : BitVec 3) : Statement (.energySample slot) := by
  revert slot; unfold Statement; decide

theorem ackwaitFire : Statement .ackwaitFire := by unfold Statement; decide

theorem sceFire : Statement .sceFire := by unfold Statement; decide

theorem hswaitFire : Statement .hswaitFire := by unfold Statement; decide

theorem cfgWrite (reg : BitVec 4) : Statement (.cfgWrite reg) := by
  revert reg; unfold Statement; decide

end Sys2Proof.Laws.OpcodeOfEncoding
end

