-- ==== Sys2Proof/Tests/Slice0.lean ====
section
/-! SUPPORT. Tests: the smoke tests of WellFormed, the decoding of the words of spec/95_test_vectors.md section 2.1, one
or two steps of each event with the results the spec's worked examples give (the rule stands in each docstring), and a
witness for the hypotheses of every statement of Certificates/Slice0/Obligations.lean. -/

namespace Sys2Proof.Tests

open Sys2Proof.Machine Sys2Proof.Safety

/-! ### WellFormed: an ill-formed event for each check -/

theorem test_wellFormed_refuses_ccaConf_2 : (Instr.ccaConf 2#3).wellFormed = false := by decide

theorem test_wellFormed_refuses_trxConf_4 : (Instr.trxConf 4#3).wellFormed = false := by decide

theorem test_wellFormed_refuses_energySample_4 : (Instr.energySample 4#3).wellFormed = false := by decide

theorem test_wellFormed_accepts_the_last_codes :
    (Instr.ccaConf 1#3).wellFormed = true ∧ (Instr.trxConf 3#3).wellFormed = true ∧
      (Instr.energySample 3#3).wellFormed = true ∧ (Instr.txConf 7#3).wellFormed = true := by decide

/-! ### Decoding: words written out from spec/30_encoding.md and spec/95_test_vectors.md section 2.1 -/

/-- No option bit is set. -/
def noOption : TxOpt := { ack := false, gts := false, indirect := false }

/-- Only `ACK` is set. -/
def ackOption : TxOpt := { ack := true, gts := false, indirect := false }

/-- R92, R97, R98: format S, field by field. -/
theorem test_decode_submit :
    decode 0x10702800#32 = .event (.submit 0x07#8 .data noOption .short .short 0#10) ∧
      decode 0x10106800#32 = .event (.submit 0x01#8 .data ackOption .short .short 0#10) ∧
      decode 0x12042800#32 = .event (.submit 0x20#8 .rfe noOption .short .short 0#10) ∧
      decode 0x10422800#32 = .event (.submit 0x04#8 .ack noOption .short .short 0#10) ∧
      decode 0x10600000#32 = .event (.submit 0x06#8 .data noOption .noAddress .noAddress 0#10) ∧
      decode 0x10601800#32 = .event (.submit 0x06#8 .data noOption .reserved .short 0#10) ∧
      decode 0x10807C00#32 = .event (.submit 0x08#8 .data ackOption .extended .extended 0#10) := by decide

/-- R92: bit 15 is GTS, bit 16 INDIRECT, bits 9:0 are kept. -/
theorem test_decode_submit_options :
    decode 0x1030A800#32 =
        .event (.submit 0x03#8 .data { ack := false, gts := true, indirect := false } .short .short 0#10) ∧
      decode 0x10312800#32 =
        .event (.submit 0x03#8 .data { ack := false, gts := false, indirect := true } .short .short 0#10) ∧
      decode 0x10702801#32 = .event (.submit 0x07#8 .data noOption .short .short 1#10) := by decide

/-- R93. -/
theorem test_decode_format_c :
    decode 0x20000000#32 = .event (.ccaConf 0#3) ∧ decode 0x20000001#32 = .event (.ccaConf 1#3) ∧
      decode 0x30000000#32 = .event (.trxConf 0#3) ∧ decode 0x30000003#32 = .event (.trxConf 3#3) ∧
      decode 0x40000000#32 = .event (.txConf 0#3) ∧ decode 0x40000001#32 = .event (.txConf 1#3) ∧
      decode 0x60000000#32 = .event (.energySample 0#3) ∧ decode 0x60000003#32 = .event (.energySample 3#3) := by decide

/-- R94 to R96. -/
theorem test_decode_formats_f_n_g :
    decode 0x50000080#32 = .event (.rxFrame false 0x80#8) ∧ decode 0x50000180#32 = .event (.rxFrame true 0x80#8) ∧
      decode 0x70000000#32 = .event .ackwaitFire ∧ decode 0x80000000#32 = .event .sceFire ∧
      decode 0x90000000#32 = .event .hswaitFire ∧ decode 0xA0000000#32 = .event (.cfgWrite 0#4) ∧
      decode 0xA4000000#32 = .event (.cfgWrite 4#4) ∧ decode 0xA5000000#32 = .event (.cfgWrite 5#4) := by decide

/-- R105: the illegal words of spec/95_test_vectors.md section 2.1, each by its reason. -/
theorem test_decode_illegal :
    decode 0x00000000#32 = .illegal .reservedOpcode ∧ decode 0xB0000000#32 = .illegal .reservedOpcode ∧
      decode 0xF1234567#32 = .illegal .reservedOpcode ∧ decode 0x20000002#32 = .illegal .illegalCode ∧
      decode 0x20000008#32 = .illegal .mustBeZero ∧ decode 0x30000004#32 = .illegal .illegalCode ∧
      decode 0x60000004#32 = .illegal .illegalCode ∧ decode 0x70000001#32 = .illegal .mustBeZero ∧
      decode 0x50000200#32 = .illegal .mustBeZero ∧ decode 0xA0000001#32 = .illegal .mustBeZero := by decide

theorem test_encode_words :
    encode (.submit 0x20#8 .rfe noOption .short .short 0#10) = 0x12042800#32 ∧ encode (.trxConf 2#3) = 0x30000002#32 ∧
      encode (.rxFrame true 0x80#8) = 0x50000180#32 ∧ encode (.cfgWrite 3#4) = 0xA3000000#32 := by decide

theorem test_decodeTableWord :
    decodeTableWord 32 0x12042800 = some (.submit 0x20#8 .rfe noOption .short .short 0#10) ∧
      decodeTableWord 32 0x20000002 = none := by decide

/-! ### Small states -/

/-- The configuration K0 of spec/95_test_vectors.md; `GROUP2_DELAY` is not given there. -/
def k0 : Config :=
  { role := .sensor, shortAddr0 := 0x0001#16, extAddr0 := 0x00124B0000000001#64, panId0 := 0x1234#16, promisc0 := false,
    maxFrameRetries := 3, tUnitBackoff := 20, tTurnaround := 12, tPreamble := 10, tSixOctets := 12,
    group2Delay := 7#32, requiredEnergy := 1000#32, maxFrameLen := 127, bcastPan := 0xFFFF#16, bcastShort := 0xFFFF#16,
    panUnset := 0xFFFF#16, maxFrameVersion := 1, txqDepth := some 4, dsnInit := 0x10#8, hsTimeoutEn := false,
    tHsTimeout := 0#32, hsInsertFront := true, cfeAckDelay := 0#32, dropEn := false, injOn := [], overheadTable := [],
    overheadElse := 11 }

/-- Rest, with K0. -/
def idle : State := { State.resetWith k0 with out := [] }

/-- Rest of an EnergyDonor. -/
def donor : State := { idle with cfg := { k0 with role := .energyDonor } }

/-- An upper-layer data frame that asks for an acknowledgment. -/
def dataEntry : OutFrame :=
  { frame := default, handle := 0x07#8, tag := .data, ackreq := true, seq := 0x10#8, origin := .upstream }

/-- An entry of tag `tag` that asks for none. -/
def plainEntry (tag : Tag) : OutFrame := { dataEntry with tag := tag, ackreq := false }

/-- Channel access for `e`. -/
def contending (e : OutFrame) : State :=
  { idle with ms := .channelAccess, arbRun := true, ccaCnt := 1#16, txq := [e], dsn := 0x11#8 }

/-- The slot of `e`, which is queued. -/
def slotOf (e : OutFrame) : InFlight :=
  { valid := true, frame := e.frame, tag := e.tag, ackreq := e.ackreq, seq := e.seq, handle := e.handle,
    origin := e.origin, inQueue := true }

/-- `e` is being transmitted. -/
def sending (e : OutFrame) : State :=
  { idle with ms := .sending, txIssued := true, ccaCnt := 1#16, txq := [e], iff := slotOf e, dsn := 0x11#8 }

/-- `dataEntry` awaits its acknowledgment. -/
def awaiting : State :=
  { sending dataEntry with ms := .ackPending, ackw := { armed := true, dur := 54#32 } }

/-- A handshake wait with an empty slot. -/
def frozen : State := { idle with ms := .energyPending }

/-- A frame for this device, from short address 5, with tag `tag`. -/
def frameFor (ftype : FrameType) (ackreq : Bool) (seq : SeqNo) (metadata : Metadata) : Frame :=
  { bytes := [], fcsOk := true, metadata := metadata
    header :=
      { ftype := ftype, version := 0#2, ackreq := ackreq, seq := seq, dstMode := .short, dstPanPresent := true,
        dstPan := 0x1234#16, dstAddr := 0x0001#64, srcMode := .short, srcPan := 0x1234#16, srcAddr := 0x0005#64 } }

/-- Metadata of a frame with tag `tag`. -/
def tagged (tag : Tag) : Metadata := { tag := tag, duration := 20#32, group := 2#8 }

/-- A received acknowledgment. -/
def ackFrame (seq : SeqNo) : Frame :=
  { bytes := [], fcsOk := true, metadata := { tag := .untagged, duration := 0#32, group := 0#8 }
    header := { (default : Header) with ftype := .ack, seq := seq } }

/-- `s` with the received frame `f` in the mailbox. -/
def hearing (f : Frame) (s : State) : State := { s with mailbox := { Mailbox.reset with frame := f } }

/-- `s` with a submission to short address 2 of PAN 0x1234 in the mailbox, with `len` octets. -/
def offering (len : Nat) (s : State) : State :=
  { s with
    mailbox :=
      { Mailbox.reset with dstPan := 0x1234#16, dstAddr := 0x0002#64, payload := List.replicate len 0#8 } }

/-- `s` with the energy sample `e` in the mailbox. -/
def sensing (e : Energy) (s : State) : State := { s with mailbox := { Mailbox.reset with energy := e } }

/-- `s` with the value `v` in the mailbox. -/
def configuring (v : BitVec 32) (s : State) : State := { s with mailbox := { Mailbox.reset with value := v } }

/-- What `p` finds true of the next state. -/
def nextIs (o : Host.Outcome State Fault Refusal) (p : State → Bool) : Bool :=
  match o with
  | .next t => p t
  | .fault _ => false
  | .refused _ => false

/-! ### Steps -/

/-- R148, S1. -/
theorem test_submit_from_rest :
    nextIs (exec (.submit 0x07#8 .data noOption .short .short 0#10) (offering 5 idle)) (fun t =>
      decide (t.ms = .channelAccess ∧ t.txq.map (fun e => (e.seq, e.ackreq)) = [(0x10#8, false)] ∧ t.dsn = 0x11#8 ∧
        t.ccaCnt = 1#16 ∧ t.out = [.trace (.enq 0x07#8), .arbStart, .trace (.arbStart 1#16)])) = true := by decide

/-- Rest with a largest serialized frame of 15 octets, so 4 of payload. -/
def small : State := { idle with cfg := { k0 with maxFrameLen := 15 } }

/-- R141, R144, as S4: the length is checked before the malformed mode. -/
theorem test_submit_too_long :
    nextIs (exec (.submit 0x06#8 .data noOption .reserved .short 0#10) (offering 5 small)) (fun t =>
      decide (t.ms = .idle ∧ t.txq = [] ∧ t.dsn = 0x10#8 ∧
        t.out = [.confirm 0x06#8 .frameTooLong, .trace (.reject 0x06#8 .frameTooLong)])) = true := by decide

/-- R150. -/
theorem test_cfgWrite_panId :
    nextIs (exec (.cfgWrite 1#4) (configuring 0xBEEF#32 idle)) (fun t =>
      decide (t.panId = 0xBEEF#16 ∧ t.shortAddr = 0x0001#16 ∧ t.out = [.trace (.cfg 1#4)])) = true := by decide

/-- R150, R99: a reserved index. -/
theorem test_cfgWrite_reserved :
    nextIs (exec (.cfgWrite 5#4) (configuring 0xBEEF#32 idle)) (fun t =>
      decide (t = { configuring 0xBEEF#32 idle with out := [.trace (.badEvent 0xA5000000#32)] })) = true := by decide

/-- R160. -/
theorem test_ccaConf_idle :
    nextIs (exec (.ccaConf 0#3) (contending dataEntry)) (fun t =>
      decide (t.ms = .sending ∧ t.arbRun = false ∧ t.iff = slotOf dataEntry ∧ t.txq = [dataEntry] ∧
        t.out = [.trxRequest .txOn, .trace (.txBegin .data 0x10#8)])) = true := by decide

/-- R161. -/
theorem test_ccaConf_failure :
    nextIs (exec (.ccaConf 1#3) (contending dataEntry)) (fun t =>
      decide (t.ms = .idle ∧ t.txq = [] ∧ t.ccaCnt = 0#16 ∧
        t.out =
          [.confirm 0x07#8 .channelAccessFailure, .trace (.ccaFailDrop 0x07#8), .trxRequest .rxOn])) = true := by decide

/-- R164. -/
theorem test_trxConf_requests_transmission :
    nextIs (exec (.trxConf 2#3) { sending dataEntry with txIssued := false }) (fun t =>
      decide (t = { sending dataEntry with out := [.txRequest default] })) = true := by decide

/-- R163, R274, R312: a late receive-on confirmation in `Sending` is fatal. -/
theorem test_trxConf_late_receive_on :
    nextIs (exec (.trxConf 1#3) { sending dataEntry with txIssued := false }) (fun t =>
      decide (t.fault = true ∧ t.ms = .idle ∧ t.iff.valid = false ∧ t.txq = [dataEntry] ∧
        t.out = [.trxRequest .rxOn, .faultReport .trxState .sending 1#3, .trace (.fatal .trxState)])) = true := by decide

/-- R167, E13. -/
theorem test_txConf_awaits_ack :
    nextIs (exec (.txConf 0#3) (sending dataEntry)) (fun t =>
      decide (t.ms = .ackPending ∧ t.ackw = { armed := true, dur := 54#32 } ∧ t.txq = [dataEntry] ∧
        t.out = [.trace (.txDone .data 0x10#8), .trxRequest .rxOn])) = true := by decide

/-- R169. -/
theorem test_txConf_done :
    nextIs (exec (.txConf 0#3) (sending (plainEntry .data))) (fun t =>
      decide (t.ms = .idle ∧ t.txq = [] ∧ t.iff.valid = false ∧ t.ccaCnt = 0#16 ∧
        t.out = [.trace (.txDone .data 0x10#8), .confirm 0x07#8 .success, .trxRequest .rxOn])) = true := by decide

/-- R221 (e). -/
theorem test_rxFrame_ack_priority :
    nextIs (exec (.rxFrame false 0x80#8) (hearing (frameFor .data true 0x55#8 (tagged .untagged)) awaiting)) (fun t =>
      decide (t.ms = .sending ∧ t.retryCnt = 1 ∧ t.txq = [dataEntry] ∧ t.ackw.armed = false ∧
        (t.iff.tag, t.iff.seq, t.iff.origin, t.iff.inQueue) = (.ack, 0x55#8, .ackgen, false) ∧
        t.out.map Action.code = [0x8#4, 0xA#4, 0x3#4, 0xA#4, 0x1#4])) = true := by decide

/-- R251 (e), with an EnergyDonor. -/
theorem test_rxFrame_donor :
    nextIs (exec (.rxFrame false 0x80#8) (hearing (frameFor .data false 0x20#8 (tagged .rfe)) donor)) (fun t =>
      decide (t.ms = .idle ∧ t.hs.valid = true ∧ t.hs.reqAddr = 0x0005#64 ∧ t.hs.reqPan = 0x1234#16 ∧ t.hs.group = 2#8 ∧
        t.sce = { pending := true, action := .emitCfe, delay := 7#32 } ∧
        t.out.map Action.code = [0x8#4, 0xA#4])) = true := by decide

/-- A named target with a stored first sample. -/
def target (e1 : Energy) : State :=
  { idle with
    hs := { HsContext.reset with
      annValid := true, annMode := .short, annAddr := 0x0001#64, annPan := 0x1234#16, e1Valid := true, e1 := e1 } }

/-- R251 (b): `floor(1000 / 7) = 142`. -/
theorem test_energySample_duration :
    nextIs (exec (.energySample 2#3) (sensing 4#32 (target 3#32))) (fun t =>
      decide (t.hs.duration = 142#32 ∧ t.hs.e2 = 4#32 ∧ t.hs.e1Valid = false ∧
        t.sce = { pending := true, action := .emitCfeAck, delay := 0#32 })) = true := by decide

/-- R251 (c). -/
theorem test_energySample_zero :
    nextIs (exec (.energySample 2#3) (sensing 0#32 (target 0#32))) (fun t =>
      decide (t.sce.pending = false ∧ t.hs.e1Valid = false ∧
        t.out = [.trace (.hsSample 2#3 0#32), .trace .hsDivZero])) = true := by decide

/-- R221 (a). -/
theorem test_ackwaitFire_retries :
    nextIs (exec .ackwaitFire awaiting) (fun t =>
      decide (t.ms = .channelAccess ∧ t.retryCnt = 1 ∧ t.iff.valid = false ∧ t.ackw.armed = false ∧
        t.txq = [dataEntry] ∧
        t.out = [.trace (.retry 1), .trxRequest .rxOn, .arbStart, .trace (.arbStart 2#16)])) = true := by decide

/-- R221 (b). -/
theorem test_ackwaitFire_gives_up :
    nextIs (exec .ackwaitFire { awaiting with retryCnt := 3 }) (fun t =>
      decide (t.ms = .idle ∧ t.txq = [] ∧ t.retryCnt = 0 ∧
        t.out =
          [.confirm 0x07#8 .noAcknowledgment, .trace (.noackDrop 0x07#8), .trxRequest .rxOn])) = true := by decide

/-- A state with `action` scheduled. -/
def scheduled (action : SceAction) (s : State) : State := { s with sce := { pending := true, action := action, delay := 0#32 } }

/-- R245, R246: the ENERGY frame is queued in front of a frozen frame. -/
theorem test_sceFire_emits :
    nextIs (exec .sceFire (scheduled .emitEnergy { contending dataEntry with retryCnt := 2 })) (fun t =>
      decide (t.ms = .channelAccess ∧ t.dsn = 0x12#8 ∧ t.retryCnt = 2 ∧
        t.txq.map (fun e => (e.tag, e.seq, e.origin)) = [(.energy, 0x11#8, .internal), (.data, 0x10#8, .upstream)] ∧
        t.out =
          [.arbCancel, .trxRequest .rxOn, .trace (.hsEmit .energy), .arbStart, .trace (.arbStart 2#16)])) = true := by
  decide

/-- R245: held in `Sending`. -/
theorem test_sceFire_held :
    nextIs (exec .sceFire (scheduled .emitCfeAck (sending dataEntry))) (fun t =>
      decide (t = { scheduled .emitCfeAck (sending dataEntry) with
        pending := [{ word := 0x80000000#32, mailbox := Mailbox.reset }] })) = true := by decide

/-- R249. -/
theorem test_hswaitFire_ends_the_wait :
    nextIs (exec .hswaitFire { frozen with hsw := { armed := true } }) (fun t =>
      decide (t.ms = .idle ∧ t.hsw.armed = false ∧ t.out = [.trace .hsTimeout, .trxRequest .rxOn])) = true := by decide

/-- R249: stale with the timeout disabled. -/
theorem test_hswaitFire_stale :
    nextIs (exec .hswaitFire frozen) (fun t => decide (t = { frozen with out := [.trace (.staleEvent 0x9#4)] })) = true := by
  decide

/-- R105 through the step. -/
theorem test_step_bad_word :
    nextIs (step (idle.withFetchWord 32 0xF1234567)) (fun t =>
      decide (t.ms = .idle ∧ t.pending = [] ∧ t.out = [.trace (.badEvent 0xF1234567#32)])) = true := by decide

/-- The step runs the word that withFetchWord placed. -/
theorem test_step_runs_the_fetched_word :
    nextIs (step ((configuring 0x5#32 idle).withFetchWord 32 0xA0000000)) (fun t =>
      decide (t.shortAddr = 0x0005#16 ∧ t.pending = [])) = true := by decide

/-- R140, R80: a held SUBMIT lets the next event of another source through. -/
theorem test_hold_lets_others_pass :
    nextIs (step { contending dataEntry with
        cfg := { k0 with txqDepth := some 1 }
        pending :=
          [{ word := 0x10702800#32, mailbox := Mailbox.reset }, { word := 0x20000000#32, mailbox := Mailbox.reset }] })
      (fun t => decide (t.pending.map (fun ev => ev.word) = [0x20000000#32, 0x10702800#32])) = true := by decide

/-- R276. -/
theorem test_halted :
    (match step { idle with fault := true, pending := [{ word := 0x80000000#32, mailbox := Mailbox.reset }] } with
      | .next _ => false
      | .fault r => decide (r = .halted)
      | .refused _ => false) = true := by decide

/-! ### Witnesses: states and operands that meet the hypotheses of each statement, named after it -/

theorem awaiting_invariants : Invariants awaiting := by
  constructor <;>
    simp [awaiting, sending, idle, dataEntry, slotOf, slotRecord, k0, State.resetWith, isHandshakeWait, EntryOk]

theorem idle_invariants : Invariants idle := by
  constructor <;> simp [idle, k0, State.resetWith, InFlight.reset, isHandshakeWait]

theorem contending_invariants : Invariants (contending dataEntry) := by
  constructor <;>
    simp [contending, idle, dataEntry, k0, State.resetWith, InFlight.reset, isHandshakeWait, EntryOk]

/-- The invariants do not read the schedule but for R64. -/
theorem scheduled_invariants (action : SceAction) (s : State) (h : Invariants s) : Invariants (scheduled action s) := by
  constructor <;> simp only [scheduled]
  · exact h.arbRun_iff
  · exact h.ackw_iff
  · exact h.retry_le
  · exact h.retry_owner
  · simp
  · exact h.slot_empty
  · exact h.slot_full
  · exact h.ackPending_slot
  · exact h.wait_slot
  · exact h.sending_slot
  · exact h.head_is_slot
  · exact h.candidate
  · exact h.hsw_wait
  · exact h.depth
  · exact h.entries

/-- A frame for this device reaches the filter and is accepted. -/
theorem frameFor_accepted (ftype : FrameType) (ackreq : Bool) (seq : SeqNo) (m : Metadata) (s : State)
    (htype : ftype = .data ∨ ftype = .command) (hpan : s.panId = 0x1234#16)
    (hshort : s.shortAddr = 0x0001#16) :
    reachesFilter false (hearing (frameFor ftype ackreq seq m) s) ∧
      accepted (frameFor ftype ackreq seq m).header (hearing (frameFor ftype ackreq seq m) s) := by
  refine ⟨⟨rfl, by simp⟩, ⟨?_, by simp [frameFor]⟩, .inr ⟨?_, ?_, ?_, ?_, ?_⟩⟩
  · rcases htype with h | h <;> simp [frameFor, h]
  · simp [passesStep2, frameFor, hearing, hpan]
  · simp [passesStep3, frameFor, hearing, hshort]
  · simp [passesStep4, frameFor]
  · rcases htype with h | h <;> simp [passesStep5, frameFor, h]
  · simp [passesStep6, frameFor, hearing, hpan]

/-- An acknowledgment reaches the filter and is accepted (R192 (c)). -/
theorem ackFrame_accepted (seq : SeqNo) (s : State) :
    reachesFilter false (hearing (ackFrame seq) s) ∧ accepted (ackFrame seq).header (hearing (ackFrame seq) s) := by
  refine ⟨⟨rfl, by simp⟩, ⟨by simp [ackFrame], Nat.zero_le _⟩, .inr ⟨?_, ?_, ?_, ?_, ?_⟩⟩
  · intro h; exact absurd h (show ¬(default : Bool) = true by decide)
  · intro h; exact absurd h (show (default : AddrMode) ≠ .short by decide)
  · intro h; exact absurd h (show (default : AddrMode) ≠ .extended by decide)
  · intro h; exact absurd h (show FrameType.ack ≠ .beacon by decide)
  · intro h; exact absurd h (show ¬(FrameType.ack = .data ∨ FrameType.ack = .command) by decide)

theorem witness_DecodingAnEncodedEventGivesItBack :
    (Instr.submit 0xFF#8 .untagged ackOption .reserved .extended 0x3FF#10).wellFormed = true ∧
      (Instr.ccaConf 1#3).wellFormed = true := by decide

theorem witness_EncodingADecodedWordGivesItBack : decode 0x50000180#32 = .event (.rxFrame true 0x80#8) := by decide

theorem witness_ExactlyTheLegalWordsDecode :
    illegalWord 0x20000002#32 ∧ ¬illegalWord 0x20000001#32 ∧ illegalWord 0x50000200#32 ∧ ¬illegalWord 0x500001FF#32 ∧
      illegalWord 0xA0800000#32 ∧ ¬illegalWord 0xAF000000#32 ∧ illegalWord 0xB0000000#32 ∧ illegalWord 0x0FFFFFFF#32 := by
  simp [illegalWord]

/-- `s` with the word `w` presented. -/
def presenting (w : EventWord) (s : State) : State := { s with pending := [{ word := w, mailbox := Mailbox.reset }] }

theorem witness_StepRunsTheDecodedEvent :
    (presenting 0x70000000#32 awaiting).pending = [{ word := 0x70000000#32, mailbox := Mailbox.reset }] ∧
      decode 0x70000000#32 = .event .ackwaitFire := by decide

theorem witness_IllegalWordIsConsumedWithOneTrace :
    (presenting 0x00000000#32 idle).fault = false ∧
      (presenting 0x00000000#32 idle).pending = [{ word := 0x00000000#32, mailbox := Mailbox.reset }] ∧
      illegalWord 0x00000000#32 := by
  refine ⟨rfl, rfl, ?_⟩; simp [illegalWord]

theorem witness_IllFormedEventActsAsItsIllegalWord :
    idle.fault = false ∧ (Instr.ccaConf 2#3).wellFormed = false ∧ (Instr.energySample 7#3).wellFormed = false := by decide

theorem witness_FaultedBlockAcceptsNoEvent : ({ idle with fault := true } : State).fault = true := rfl

theorem witness_BlockWaitsWithoutAnEvent : idle.fault = false ∧ idle.pending = [] := ⟨rfl, rfl⟩

theorem witness_EveryStepKeepsTheInvariants :
    Inv (presenting 0x70000000#32 awaiting) ∧ ∃ t, step (presenting 0x70000000#32 awaiting) = .next t :=
  ⟨fun _ => by
    have h := awaiting_invariants
    exact ⟨h.arbRun_iff, h.ackw_iff, h.retry_le, h.retry_owner, h.quiescent, h.slot_empty, h.slot_full,
      h.ackPending_slot, h.wait_slot, h.sending_slot, h.head_is_slot, h.candidate, h.hsw_wait, h.depth, h.entries⟩,
    _, rfl⟩

theorem witness_OutputsAreAppendedAndNeverRead : ∃ t, exec .ackwaitFire { awaiting with out := [] } = .next t := ⟨_, rfl⟩

theorem witness_ChannelAccessCountIsOnlyTraced :
    (∃ t, exec .ackwaitFire { awaiting with out := [] } = .next t) ∧
      ∃ u, exec .ackwaitFire { awaiting with out := [], ccaCnt := 0xFFFF#16 } = .next u := ⟨⟨_, rfl⟩, _, rfl⟩

theorem witness_ParametersAreNeverWritten : ∃ t, step (presenting 0x70000000#32 awaiting) = .next t := ⟨_, rfl⟩

theorem witness_IdentityIsWrittenOnlyByCfgWrite :
    (∃ t, exec .ackwaitFire awaiting = .next t) ∧ ∀ reg, Instr.ackwaitFire ≠ .cfgWrite reg :=
  ⟨⟨_, rfl⟩, fun _ h => by simp at h⟩

theorem witness_OnlyRadioConfirmationsAreFatal :
    (∃ t, exec (.trxConf 2#3) idle = .next t ∧ t.fault = true) ∧ ∃ t, exec (.txConf 1#3) idle = .next t ∧ t.fault = true :=
  ⟨⟨_, rfl, rfl⟩, _, rfl, rfl⟩

theorem witness_SequenceNumberIsTakenByOneQueuedFrame :
    (∃ t, exec (.submit 0x07#8 .data noOption .short .short 0#10) (offering 4 small) = .next t ∧ t.dsn = 0x11#8) ∧
      ∃ t, exec .sceFire (scheduled .emitEnergy idle) = .next t ∧ t.dsn = 0x11#8 :=
  ⟨⟨_, rfl, by decide⟩, _, rfl, by decide⟩

theorem witness_UpstreamFramesLeaveInOrderEachConfirmedOnce :
    Inv (presenting 0x70000000#32 awaiting) ∧ ∃ t, step (presenting 0x70000000#32 awaiting) = .next t :=
  witness_EveryStepKeepsTheInvariants

/-- R312's hazard: reset's receive-on request is still unanswered when a transmission starts, is late from then on, and
then only `SUCCESS` may answer it. -/
theorem witness_ConsistentEnvironmentNeverFaults :
    let l : Ledger := { trx := [{ state := .rxOn, late := false }], tx := false, arb := .running }
    let begun : List Action := [.trxRequest .txOn, .trace (.txBegin .data 0x10#8)]
    (contending dataEntry).fault = false ∧ Invariants (contending dataEntry) ∧ LedgerOk (contending dataEntry) l ∧
      (Instr.ccaConf 0#3).wellFormed = true ∧ Admissible l (contending dataEntry) (.ccaConf 0#3) ∧
      (∃ t, exec (.ccaConf 0#3) (contending dataEntry) = .next t ∧ t.out = (contending dataEntry).out ++ begun ∧
        Admissible (l.after (.ccaConf 0#3) begun) t (.trxConf 3#3) ∧
        ¬Admissible (l.after (.ccaConf 0#3) begun) t (.trxConf 1#3)) := by
  refine ⟨rfl, contending_invariants, ⟨?_, ?_, ?_, ?_, ?_⟩, by decide, by simp [Admissible], _, rfl, by decide,
    ⟨_, _, rfl, .inl rfl⟩, ?_⟩
  case refine_6 =>
    rintro ⟨owed, rest, h, hc⟩
    cases h
    simp [OwedAnswer.answeredBy] at hc
  all_goals simp [contending, idle, State.resetWith]

/-- Both answers to reset's request. -/
theorem witness_AnsweringResetLeavesTheBlockAtRest :
    Admissible Ledger.reset (State.resetWith k0) (.trxConf 1#3) ∧
      Admissible Ledger.reset (State.resetWith k0) (.trxConf 3#3) :=
  ⟨⟨_, [], rfl, .inr ⟨rfl, rfl⟩⟩, ⟨_, [], rfl, .inl rfl⟩⟩

theorem witness_CancellationIsIdempotent :
    idle.ackw.armed = false ∧ idle.sce.pending = false ∧ idle.hsw.armed = false ∧ idle.arbRun = false :=
  ⟨rfl, rfl, rfl, rfl⟩

theorem witness_AbandonCurrentLeavesNothingRunning : Invariants awaiting ∧ awaiting.ms ≠ .sending :=
  ⟨awaiting_invariants, by decide⟩

/-- The three checks, the first with 4 + 11 + 1 octets against 15. -/
theorem witness_MalformedSubmissionIsRejectedAtOnce :
    small.fault = false ∧ small.cfg.txqDepth ≠ some small.txq.length ∧
      small.cfg.maxFrameLen <
        (offering 5 small).mailbox.payload.length +
          Codec.overhead small.cfg (submitParams .data noOption .short .short (offering 5 small)) ∧
      ¬small.cfg.maxFrameLen <
        (offering 4 small).mailbox.payload.length +
          Codec.overhead small.cfg (submitParams .data noOption .short .short (offering 4 small)) ∧
      invalidAddress .reserved .short = true ∧ invalidAddress .short .reserved = true ∧
      invalidAddress .noAddress .noAddress = true ∧ invalidAddress .noAddress .short = false ∧
      invalidParameter .data { noOption with gts := true } 0#10 = true ∧
      invalidParameter .data { noOption with indirect := true } 0#10 = true ∧
      invalidParameter .data noOption 1#10 = true ∧ invalidParameter .untagged noOption 0#10 = true := by decide

/-- The longest payload: 4 + 11 = 15. -/
theorem witness_AdmittedSubmissionIsQueued :
    (offering 4 small).fault = false ∧ (offering 4 small).cfg.txqDepth ≠ some (offering 4 small).txq.length ∧
      noOption.gts = false ∧ noOption.indirect = false ∧ AddrMode.short ≠ .reserved ∧
      (offering 4 small).mailbox.payload.length +
          Codec.overhead small.cfg (submitParams .data noOption .short .short (offering 4 small)) ≤
        (offering 4 small).cfg.maxFrameLen := by decide

theorem witness_HeldEventStaysPresented :
    ({ contending dataEntry with cfg := { k0 with txqDepth := some 1 } } : State).cfg.txqDepth =
        some (contending dataEntry).txq.length ∧
      (scheduled .emitCfeAck (sending dataEntry)).sce.pending = true ∧
      (scheduled .emitCfeAck (sending dataEntry)).ms = .sending := by decide

theorem witness_CfgWriteWritesOneRegister :
    (configuring 0xBEEF#32 idle).fault = false ∧ 5#4 ≤ 5#4 ∧ 5#4 ≤ 15#4 ∧ ¬5#4 ≤ 4#4 := by decide

theorem witness_ChannelIdleLoadsTheHeadFrame :
    (contending dataEntry).fault = false ∧ (contending dataEntry).ms = .channelAccess ∧
      (contending dataEntry).txq = [dataEntry] := ⟨rfl, rfl, rfl⟩

theorem witness_ChannelAccessFailureDropsTheHeadFrame :
    (contending dataEntry).fault = false ∧ (contending dataEntry).ms = .channelAccess ∧
      (contending dataEntry).txq = [dataEntry] := ⟨rfl, rfl, rfl⟩

theorem witness_StaleChannelResultIsOnlyTraced :
    idle.fault = false ∧ idle.ms ≠ .channelAccess ∧ (Instr.ccaConf 1#3).wellFormed = true := by decide

/-- Each row of R163's table with an acceptable code, and one that is not. -/
theorem witness_TransceiverConfirmationTable :
    idle.ms = .idle ∧ (contending dataEntry).ms = .channelAccess ∧ (sending dataEntry).ms = .sending ∧
      awaiting.ms = .ackPending ∧ frozen.ms = .energyPending ∧ 3#3 < 4#3 ∧
      trxAcceptable .idle .trxOff = true ∧ trxAcceptable .idle .txOn = false ∧
      trxAcceptable .sending .rxOn = false ∧ trxAcceptable .sending .txOn = true ∧
      trxAcceptable .cfePending .trxOff = false ∧ trxAcceptable .cfeAckPending .success = true := by decide

theorem witness_TransmissionIsRequestedOnce :
    (sending dataEntry).fault = false ∧ (sending dataEntry).ms = .sending ∧ (sending dataEntry).txIssued = true ∧
      ({ sending dataEntry with txIssued := false } : State).txIssued = false := by decide

/-- Each of the three ways. -/
theorem witness_InconsistentTransmitConfirmationIsFatal :
    idle.fault = false ∧ idle.ms ≠ .sending ∧ ({ sending dataEntry with txIssued := false } : State).txIssued = false ∧
      (1#3 : BitVec 3) ≠ 0#3 := by decide

theorem witness_AckRequestedDataAwaitsItsAck :
    (sending dataEntry).fault = false ∧ (sending dataEntry).ms = .sending ∧ (sending dataEntry).txIssued = true ∧
      (sending dataEntry).iff.tag = .data ∧ (sending dataEntry).iff.ackreq = true ∧
      k0.tUnitBackoff + k0.tTurnaround + k0.tPreamble + k0.tSixOctets < 2 ^ 32 := by decide

/-- Each of the three tags. -/
theorem witness_HandshakeFrameAwaitsItsReply :
    (sending (plainEntry .rfe)).fault = false ∧ (sending (plainEntry .rfe)).ms = .sending ∧
      (sending (plainEntry .rfe)).txIssued = true ∧ (sending (plainEntry .rfe)).txq = [plainEntry .rfe] ∧
      (sending (plainEntry .rfe)).iff.tag = .rfe ∧ (sending (plainEntry .cfe)).iff.tag = .cfe ∧
      (sending (plainEntry .cfeAck)).iff.tag = .cfeAck := by decide

/-- A queued data frame without acknowledgment, and a generated acknowledgment, which is not queued. -/
theorem witness_FinishedTransmissionReturnsToIdle :
    (sending (plainEntry .data)).txq = [plainEntry .data] ∧ (sending (plainEntry .data)).iff.tag = .data ∧
      (sending (plainEntry .data)).iff.ackreq = false ∧ (sending (plainEntry .energy)).iff.tag = .energy ∧
      ({ sending dataEntry with iff := { slotOf (plainEntry .ack) with inQueue := false, origin := .ackgen } }
        : State).iff.inQueue = false := by decide

/-- A block that drops the frame `ackFrame 0` when the draw says so. -/
def dropping : State :=
  { hearing (ackFrame 0#8) idle with
    cfg := { k0 with dropEn := true, injOn := [((ackFrame 0#8).header, (ackFrame 0#8).metadata)] } }

theorem witness_DamagedOrInjectedFrameIsDropped :
    (hearing { ackFrame 0#8 with fcsOk := false } idle).fault = false ∧
      (hearing { ackFrame 0#8 with fcsOk := false } idle).mailbox.frame.fcsOk = false ∧ dropping.fault = false ∧
      dropping.mailbox.frame.fcsOk = true ∧ dropping.cfg.dropEn = true ∧
      (dropping.mailbox.frame.header, dropping.mailbox.frame.metadata) ∈ dropping.cfg.injOn := by decide

/-- A header for this device, to be spoilt at one step. -/
def goodHeader : Header := (frameFor .data false 0#8 (tagged .untagged)).header

/-- The block hears a frame with header `h`. -/
def hearingHeader (h : Header) : State := hearing { ackFrame 0#8 with header := h } idle

/-- Each step of the filter is the first to fail for some frame (R199 (b), (c), (e), (f) among them). -/
theorem witness_FilterRejectsAtTheFirstFailingStep :
    (∀ h, (hearingHeader h).fault = false ∧ (hearingHeader h).promisc = false ∧ reachesFilter false (hearingHeader h)) ∧
      ¬passesStep1 { goodHeader with ftype := .reserved 1 } idle ∧ ¬passesStep1 { goodHeader with version := 2#2 } idle ∧
      ¬passesStep2 { goodHeader with dstPan := 0x5678#16 } idle ∧
      filterVerdict { goodHeader with ftype := .reserved 1 } idle = some 1 ∧
      filterVerdict { goodHeader with version := 2#2 } idle = some 1 ∧
      filterVerdict { goodHeader with dstPan := 0x5678#16 } idle = some 2 ∧
      filterVerdict { goodHeader with dstAddr := 0x0002#64 } idle = some 3 ∧
      filterVerdict { goodHeader with dstMode := .extended } idle = some 4 ∧
      filterVerdict { goodHeader with ftype := .beacon, srcPan := 0x9999#16 } idle = some 5 ∧
      filterVerdict { goodHeader with srcPan := 0x9999#16 } idle = some 6 ∧ filterVerdict goodHeader idle = none ∧
      filterVerdict { goodHeader with dstAddr := 0x0002#64 } { idle with promisc := true } = none ∧
      passesStep1 { goodHeader with dstAddr := 0x0002#64 } { idle with promisc := true } ∧
      reachesFilter false { hearingHeader { goodHeader with dstAddr := 0x0002#64 } with promisc := true } ∧
      passesStep1 goodHeader idle ∧ passesStep2 goodHeader idle ∧ passesStep3 goodHeader idle ∧
      passesStep4 goodHeader idle ∧ passesStep5 goodHeader idle ∧ passesStep6 goodHeader idle := by
  refine ⟨fun _ => ⟨rfl, rfl, rfl, by simp⟩, by unfold passesStep1; decide, by unfold passesStep1; decide,
    by unfold passesStep2; decide, by decide, by decide, by decide, by decide, by decide, by decide, by decide, by decide,
    by decide, by unfold passesStep1; decide, ⟨rfl, by simp⟩, ?_⟩
  unfold passesStep1 passesStep2 passesStep3 passesStep4 passesStep5 passesStep6
  decide

/-- A beacon of this device's PAN. -/
def beacon : Frame := { ackFrame 0#8 with header := { (ackFrame 0#8).header with ftype := .beacon, srcPan := 0x1234#16 } }

theorem witness_AcceptedBeaconIsOnlyTraced :
    reachesFilter false (hearing beacon idle) ∧ accepted beacon.header (hearing beacon idle) ∧
      beacon.header.ftype = .beacon := by
  refine ⟨⟨rfl, by simp⟩, ⟨⟨.inl rfl, Nat.zero_le _⟩, .inr ⟨?_, ?_, ?_, fun _ => .inr rfl, ?_⟩⟩, rfl⟩
  · intro h; exact absurd h (by decide)
  · intro h; exact absurd h (by decide)
  · intro h; exact absurd h (by decide)
  · intro h; exact absurd h (by decide)

theorem witness_OnlyAcceptedUntaggedDataIsIndicated :
    (∃ t, exec (.rxFrame false 0x80#8) (hearing (frameFor .data false 0#8 (tagged .untagged)) idle) = .next t ∧
        ∃ new, t.out = idle.out ++ new ∧ ∃ a ∈ new, isIndication a = true) ∧
      ∃ t, exec (.rxFrame false 0x80#8) (hearing (frameFor .data false 0#8 (tagged .energy)) idle) = .next t ∧
        ∃ new, t.out = idle.out ++ new ∧ ¬∃ a ∈ new, isIndication a = true :=
  ⟨⟨_, rfl, _, rfl, by decide⟩, _, rfl, _, rfl, by decide⟩

/-- A broadcast frame that asks for an acknowledgment (R199 (d)). -/
def broadcastData : Frame :=
  { frameFor .data true 0#8 (tagged .untagged) with header := { goodHeader with dstAddr := 0xFFFF#64, ackreq := true } }

theorem witness_BroadcastFrameElicitsNoAck :
    broadcastFrame broadcastData.header (hearing broadcastData idle) ∧
      ∃ t, exec (.rxFrame false 0x80#8) (hearing broadcastData idle) = .next t ∧ ∃ new, t.out = idle.out ++ new :=
  ⟨⟨rfl, by decide⟩, _, rfl, _, rfl⟩

theorem witness_ReceivedFrameFrame :
    (∃ t, exec (.rxFrame false 0x80#8) (hearing broadcastData awaiting) = .next t) ∧
      ∃ t, exec (.rxFrame false 0x80#8) (hearing broadcastData (sending dataEntry)) = .next t := ⟨⟨_, rfl⟩, _, rfl⟩

theorem witness_MatchingAckConfirmsTheFrame :
    reachesFilter false (hearing (ackFrame 0x10#8) awaiting) ∧
      accepted (ackFrame 0x10#8).header (hearing (ackFrame 0x10#8) awaiting) ∧ (ackFrame 0x10#8).header.ftype = .ack ∧
      awaiting.ms = .ackPending ∧ (ackFrame 0x10#8).header.seq = awaiting.iff.seq ∧ awaiting.txq = [dataEntry] :=
  ⟨(ackFrame_accepted _ _).1, (ackFrame_accepted _ _).2, rfl, rfl, rfl, rfl⟩

theorem witness_OtherAckIsATimeoutOrUnexpected :
    reachesFilter false (hearing (ackFrame 0x11#8) awaiting) ∧
      accepted (ackFrame 0x11#8).header (hearing (ackFrame 0x11#8) awaiting) ∧
      (ackFrame 0x11#8).header.seq ≠ awaiting.iff.seq ∧ awaiting.txq = [dataEntry] ∧
      reachesFilter false (hearing (ackFrame 0x11#8) idle) ∧
      accepted (ackFrame 0x11#8).header (hearing (ackFrame 0x11#8) idle) ∧ idle.ms ≠ .ackPending :=
  ⟨(ackFrame_accepted _ _).1, (ackFrame_accepted _ _).2, by decide, rfl, (ackFrame_accepted _ _).1,
    (ackFrame_accepted _ _).2, by decide⟩

/-- A frame that asks for an acknowledgment. -/
def asking : Frame := frameFor .data true 0x55#8 (tagged .rfe)

theorem witness_OwedAckIsSentFirst :
    reachesFilter false (hearing asking awaiting) ∧ accepted asking.header (hearing asking awaiting) ∧
      asking.header.ftype = .data ∧ asking.header.ackreq = true ∧
      ¬broadcastFrame asking.header (hearing asking awaiting) ∧ awaiting.ms ≠ .sending ∧ awaiting.txq ≠ [] :=
  ⟨(frameFor_accepted _ _ _ _ _ (.inl rfl) rfl rfl).1, (frameFor_accepted _ _ _ _ _ (.inl rfl) rfl rfl).2, rfl,
    rfl, fun h => absurd h.2 (by decide), by decide, by decide⟩

theorem witness_FrameWhileSendingChangesNoState :
    reachesFilter false (hearing asking (sending dataEntry)) ∧
      accepted asking.header (hearing asking (sending dataEntry)) ∧ (sending dataEntry).ms = .sending ∧
      asking.header.ackreq = true ∧ ¬broadcastFrame asking.header (hearing asking (sending dataEntry)) ∧
      handshakeTag asking.metadata.tag :=
  ⟨(frameFor_accepted _ _ _ _ _ (.inl rfl) rfl rfl).1, (frameFor_accepted _ _ _ _ _ (.inl rfl) rfl rfl).2, rfl,
    rfl, fun h => absurd h.2 (by decide), .inl rfl⟩

/-- A command frame with no tag that asks for no acknowledgment. -/
def plainCommand : Frame := frameFor .command false 0#8 (tagged .untagged)

theorem witness_PlainFrameOnlyIndicates :
    reachesFilter false (hearing plainCommand idle) ∧ accepted plainCommand.header (hearing plainCommand idle) ∧
      plainCommand.header.ftype = .command ∧ plainCommand.header.ackreq = false ∧ ¬handshakeTag plainCommand.metadata.tag :=
  ⟨(frameFor_accepted _ _ _ _ _ (.inr rfl) rfl rfl).1, (frameFor_accepted _ _ _ _ _ (.inr rfl) rfl rfl).2, rfl,
    rfl, by unfold handshakeTag; decide⟩

/-- A handshake frame of tag `tag` that asks for no acknowledgment. -/
def handshake (tag : Tag) : Frame := frameFor .data false 0x20#8 (tagged tag)

/-- The premises the handshake statements share: the block is not halted, the frame it hears reaches the filter, is
accepted, is a data or command frame, and asks for no acknowledgment. -/
def HeardUnasked (f : Frame) (s : State) : Prop :=
  s.fault = false ∧ reachesFilter false (hearing f s) ∧ accepted f.header (hearing f s) ∧
    (f.header.ftype = .data ∨ f.header.ftype = .command) ∧
    (f.header.ackreq = false ∨ broadcastFrame f.header (hearing f s))

theorem handshake_heard (tag : Tag) (s : State) (hf : s.fault = false) (hpan : s.panId = 0x1234#16)
    (hshort : s.shortAddr = 0x0001#16) : HeardUnasked (handshake tag) s :=
  ⟨hf, (frameFor_accepted _ _ _ _ _ (.inl rfl) hpan hshort).1, (frameFor_accepted _ _ _ _ _ (.inl rfl) hpan hshort).2,
    .inl rfl, .inl rfl⟩

/-- An RFE of a group that is not mapped. -/
def strayRfe : Frame := frameFor .data false 0x20#8 { tagged .rfe with group := 3#8 }

/-- Group 2 is answered, group 3 is not. -/
theorem witness_DonorSchedulesACfeForAnRfe :
    HeardUnasked (handshake .rfe) donor ∧ (handshake .rfe).metadata.tag = .rfe ∧ donor.cfg.role = .energyDonor ∧
      donor.ms ≠ .sending ∧ donor.ms ≠ .ackPending ∧ (handshake .rfe).metadata.group = 2#8 ∧
      (handshake .rfe).header.srcMode = .short ∧ HeardUnasked strayRfe donor ∧ strayRfe.metadata.tag = .rfe ∧
      strayRfe.metadata.group = 3#8 :=
  ⟨handshake_heard _ _ rfl rfl rfl, rfl, rfl, by decide, by decide, rfl, rfl,
    ⟨rfl, (frameFor_accepted _ _ _ _ _ (.inl rfl) rfl rfl).1, (frameFor_accepted _ _ _ _ _ (.inl rfl) rfl rfl).2,
      .inl rfl, .inl rfl⟩, rfl, rfl⟩

/-- From `ChannelAccess`, which freezes, and from `AckPending`, which does not. -/
theorem witness_SensorFreezesOnAnRfe :
    HeardUnasked (handshake .rfe) (contending dataEntry) ∧ (handshake .rfe).metadata.tag = .rfe ∧
      (contending dataEntry).cfg.role = .sensor ∧ (contending dataEntry).ms = .channelAccess ∧
      HeardUnasked (handshake .rfe) awaiting ∧ awaiting.cfg.role = .sensor ∧ awaiting.ms = .ackPending :=
  ⟨handshake_heard _ _ rfl rfl rfl, rfl, rfl, rfl, handshake_heard _ _ rfl rfl rfl, rfl, rfl⟩

theorem witness_SensorRecordsTheAnnouncedTarget :
    HeardUnasked (handshake .cfe) frozen ∧ (handshake .cfe).metadata.tag = .cfe ∧ frozen.ms ≠ .sending ∧
      frozen.cfg.role = .sensor ∧ HeardUnasked (handshake .cfe) donor ∧ donor.ms ≠ .sending ∧
      donor.cfg.role = .energyDonor :=
  ⟨handshake_heard _ _ rfl rfl rfl, rfl, by decide, rfl, handshake_heard _ _ rfl rfl rfl, by decide, rfl⟩

/-- Honoured by an EnergyDonor in `CfePending` and by a Sensor in `CfeAckPending`; not by a Sensor in `CfePending`. -/
theorem witness_CfeAckSchedulesTheEnergyPulse :
    HeardUnasked (handshake .cfeAck) { donor with ms := .cfePending } ∧ (handshake .cfeAck).metadata.tag = .cfeAck ∧
      donor.cfg.role = .energyDonor ∧ HeardUnasked (handshake .cfeAck) { idle with ms := .cfeAckPending } ∧
      HeardUnasked (handshake .cfeAck) { idle with ms := .cfePending } ∧ idle.cfg.role = .sensor :=
  ⟨handshake_heard _ _ rfl rfl rfl, rfl, rfl, handshake_heard _ _ rfl rfl rfl, handshake_heard _ _ rfl rfl rfl, rfl⟩

theorem witness_ObservedEnergyFrameClearsTheContext :
    HeardUnasked (handshake .energy) frozen ∧ (handshake .energy).metadata.tag = .energy ∧ frozen.ms ≠ .sending :=
  ⟨handshake_heard _ _ rfl rfl rfl, rfl, by decide⟩

theorem witness_AckWaitExpiryRetriesOrGivesUp :
    awaiting.fault = false ∧ awaiting.ackw.armed = true ∧ awaiting.txq = [dataEntry] ∧ idle.ackw.armed = false :=
  ⟨rfl, rfl, rfl, rfl⟩

/-- The last retry: 2 < 3. -/
theorem witness_RetryKeepsTheFrameQueued :
    Invariants awaiting ∧ awaiting.fault = false ∧ awaiting.ackw.armed = true ∧ awaiting.sce.pending = false ∧
      awaiting.retryCnt < awaiting.cfg.maxFrameRetries ∧ 2 < awaiting.cfg.maxFrameRetries ∧
      ∃ t, exec .ackwaitFire awaiting = .next t :=
  ⟨awaiting_invariants, rfl, rfl, rfl, by decide, by decide, _, rfl⟩

theorem witness_FirstSlotSampleIsStored : (sensing 30#32 idle).fault = false := rfl

/-- R251: (a) a quotient, (c) both samples zero, (d) not the target. -/
theorem witness_SecondSlotSampleSchedulesTheCfeAck :
    isTarget (sensing 20#32 (target 30#32)) = true ∧ (target 30#32).hs.e1Valid = true ∧
      (target 30#32).hs.e1.toNat + 20 ≠ 0 ∧ (target 0#32).hs.e1.toNat + 0 = 0 ∧ isTarget (sensing 20#32 idle) = false := by
  decide

theorem witness_TotalSampleEndsTheEnergyWait :
    frozen.fault = false ∧ frozen.ms = .energyPending ∧ idle.ms ≠ .energyPending := by decide

theorem witness_SceFireWithNothingToEmit :
    idle.sce.pending = false ∧ Invariants (scheduled .emitCfe idle) ∧ (scheduled .emitCfe idle).sce.pending = true ∧
      (scheduled .emitCfe idle).ms ≠ .sending ∧ (scheduled .emitCfe idle).hs.valid = false :=
  ⟨rfl, scheduled_invariants _ _ idle_invariants, rfl, by decide, rfl⟩

/-- Room in the queue, and a full queue. -/
theorem witness_ScheduledActionQueuesItsHandshakeFrame :
    Invariants (scheduled .emitEnergy awaiting) ∧ (scheduled .emitEnergy awaiting).sce.pending = true ∧
      (scheduled .emitEnergy awaiting).ms ≠ .sending ∧ (scheduled .emitEnergy awaiting).sce.action = .emitEnergy ∧
      (scheduled .emitEnergy awaiting).cfg.txqDepth ≠
        some (idleForced (waitLeft (scheduleCancelled (scheduled .emitEnergy awaiting)))).txq.length ∧
      ({ k0 with txqDepth := some 1 } : Config).txqDepth =
        some (idleForced (waitLeft (scheduleCancelled (scheduled .emitEnergy awaiting)))).txq.length :=
  ⟨scheduled_invariants _ _ awaiting_invariants, rfl, by decide, rfl, by decide, by decide⟩

theorem witness_HandshakeTimeoutEndsTheWait :
    ({ frozen with hsw := { armed := true } } : State).hsw.armed = true ∧ frozen.hsw.armed = false := ⟨rfl, rfl⟩

end Sys2Proof.Tests
end

/-! PROOFS. The layer every proof about events goes through: what one event and one step can answer, and which fields each
conditional procedure writes. -/

namespace Sys2Proof.Proofs.Event

open Sys2Proof.Machine

/-! ### One event, one step -/

/-- The next state an event gives a block that is not halted, with the fault check of R276 taken off. -/
def effect (i : Instr) (s : State) : State :=
  match i with
  | .submit handle tag txopt srcMode dstMode low =>
      if isHeld (.submit handle tag txopt srcMode dstMode low) s then
        hold (.submit handle tag txopt srcMode dstMode low) s
      else submitted handle tag txopt srcMode dstMode low s
  | .ccaConf code => ccaConfirmed code s
  | .trxConf code => trxConfirmed code s
  | .txConf code => txConfirmed code s
  | .rxFrame inj lqi => frameReceived inj lqi s.mailbox.frame s
  | .energySample slot => energySampled slot s
  | .ackwaitFire => if s.ackw.armed then retryOrGiveUp s else trace (.staleEvent (opcodeOf .ackwaitFire)) s
  | .sceFire =>
      if s.sce.pending then if isHeld .sceFire s then hold .sceFire s else sceFired s
      else trace (.staleEvent (opcodeOf .sceFire)) s
  | .hswaitFire => if s.hsw.armed then hsTimedOut s else trace (.staleEvent (opcodeOf .hswaitFire)) s
  | .cfgWrite reg => configured reg s

theorem exec_eq_accept_effect (i : Instr) (s : State) : exec i s = accept s (effect i s) := by
  cases i <;> rfl

theorem exec_eq_next {i : Instr} {s t : State} : exec i s = .next t ↔ s.fault = false ∧ effect i s = t := by
  rw [exec_eq_accept_effect, accept_eq_next]

/-- A step waits, consumes an illegal word, or runs an event. -/
theorem step_eq_next {s t : State} (h : step s = .next t) :
    s.fault = false ∧
      (t = s ∨ ∃ ev rest, t = badEvent ev.word (present ev rest s) ∨ ∃ i, t = effect i (present ev rest s)) := by
  unfold step at h
  split at h
  · obtain ⟨hf, rfl⟩ := accept_eq_next.1 h
    exact ⟨hf, .inl rfl⟩
  · next ev rest _ =>
    split at h
    · next i _ =>
      obtain ⟨hf, rfl⟩ := exec_eq_next.1 h
      exact ⟨hf, .inr ⟨ev, rest, .inr ⟨i, rfl⟩⟩⟩
    · obtain ⟨hf, rfl⟩ := accept_eq_next.1 h
      exact ⟨hf, .inr ⟨ev, rest, .inl rfl⟩⟩

/-! ### Which fields the shared procedures write -/

section Writes

variable (s : State)

theorem arbCancel_writes : ∃ out, arbCancel s = { s with arbRun := false, out := out } := by
  rcases arbCancel_cases s with ⟨_, h⟩ | ⟨hoff, h⟩
  · exact ⟨_, h⟩
  · exact ⟨s.out, by rw [h, ← hoff]⟩

theorem hswArm_writes : ∃ hsw, hswArm s = { s with hsw := hsw } := by
  rcases hswArm_cases s with ⟨_, h⟩ | ⟨_, h⟩
  · exact ⟨_, h⟩
  · exact ⟨s.hsw, h⟩

theorem forceIdle_writes : ∃ out, forceIdle s = { s with ms := .idle, out := out } := by
  rcases forceIdle_cases s with ⟨hms, h⟩ | ⟨_, h⟩
  · exact ⟨s.out, by rw [h, ← hms]⟩
  · exact ⟨_, h⟩

theorem confirmHead_writes (status : Status) : ∃ out, confirmHead status s = { s with out := out } := by
  rcases confirmHead_cases status s with ⟨_, h⟩ | ⟨_, h⟩
  · exact ⟨_, h⟩
  · exact ⟨s.out, h⟩

theorem removeHead_writes :
    ∃ retryCnt ccaCnt, removeHead s = { s with txq := s.txq.tail, retryCnt := retryCnt, ccaCnt := ccaCnt } := by
  rcases removeHead_cases s with ⟨_, h⟩ | ⟨_, h⟩
  · exact ⟨_, _, h⟩
  · exact ⟨s.retryCnt, s.ccaCnt, h⟩

theorem checkQueue_writes :
    ∃ ms arbRun ccaCnt out, checkQueue s = { s with ms := ms, arbRun := arbRun, ccaCnt := ccaCnt, out := out } := by
  rcases checkQueue_cases s with ⟨_, _, _, _, h⟩ | ⟨_, h⟩
  · exact ⟨_, _, _, _, h⟩
  · exact ⟨s.ms, s.arbRun, s.ccaCnt, s.out, h⟩

theorem enterIdle_writes :
    ∃ ms arbRun ccaCnt out, enterIdle s = { s with ms := ms, arbRun := arbRun, ccaCnt := ccaCnt, out := out } := by
  rcases enterIdle_cases s with ⟨_, _, _, h⟩ | ⟨_, h⟩
  · exact ⟨_, _, _, _, h⟩
  · exact ⟨_, s.arbRun, s.ccaCnt, _, h⟩

theorem receivedWhileSending_writes (h : Header) (m : Metadata) :
    ∃ out, receivedWhileSending h m s = { s with out := out } := by
  unfold receivedWhileSending
  cases ackOwed h s <;> cases isHandshake m.tag <;> exact ⟨_, rfl⟩

theorem indicate_writes (h : Header) (m : Metadata) (lqi : Lqi) (f : Frame) :
    ∃ out, indicate h m lqi f s = { s with out := out } := by
  unfold indicate
  split <;> exact ⟨_, rfl⟩

theorem sniffed_writes (f : Frame) : ∃ out, sniffed f s = { s with out := out } := by
  unfold sniffed
  dsimp only
  split <;> exact ⟨_, rfl⟩

end Writes

/-! ### Emitting a scheduled handshake frame -/

/-- The entry R246 queues for an action. -/
def handshakeEntry (action : SceAction) (s : State) : OutFrame :=
  { frame := Codec.buildHs (hsParams action s) s.dsn, handle := 0#8, tag := (hsParams action s).tag, ackreq := false,
    seq := s.dsn, origin := .internal }

/-- R246: an action is traced only, or its entry is queued under the next sequence number, at the end `HS_INSERT_FRONT`
names. -/
theorem emitHs_cases (action : SceAction) (s : State) :
    (∃ out, emitHs action s = { s with out := out }) ∨
    (queueFull s = false ∧ ∃ out,
      emitHs action s =
        { s with
          dsn := s.dsn + 1#8
          txq := if s.cfg.hsInsertFront = true then handshakeEntry action s :: s.txq
            else s.txq ++ [handshakeEntry action s]
          out := out }) := by
  unfold emitHs
  dsimp only
  split
  · exact .inl ⟨_, rfl⟩
  · split
    · exact .inl ⟨_, rfl⟩
    · next hroom =>
      refine .inr ⟨by simpa using hroom, ?_⟩
      split <;> exact ⟨_, rfl⟩

end Sys2Proof.Proofs.Event

/-! PROOFS. The invariants of spec/10_state.md section 11 (O12). An event's procedures pass through states where not all of
them hold; `QueueOk`, `Stopped`, `Settled` and `Accounted` say what holds there. Leaving a wait settles the block, and from
a settled block every way into a MAC state restores the invariants. -/

namespace Sys2Proof.Proofs.Invariance

open Sys2Proof.Machine Sys2Proof.Safety Sys2Proof.Proofs.Event

/-! ### Parts of the invariants that outlive the middle of an event -/

/-- The invariants on the queue and its retry count (R32, R63, R70, R85): they hold in the middle of every event. -/
structure QueueOk (s : State) : Prop where
  retry_le : s.retryCnt ≤ s.cfg.maxFrameRetries
  retry_owner : s.retryCnt ≠ 0 → ∃ e ∈ s.txq, e.origin = .upstream
  depth : ∀ d, s.cfg.txqDepth = some d → s.txq.length ≤ d
  entries : ∀ e ∈ s.txq, EntryOk e

/-- The Arbiter and the two wait timers are off, whatever `MS` says. -/
structure Stopped (s : State) : Prop extends QueueOk s where
  arbRun_off : s.arbRun = false
  ackw_off : s.ackw.armed = false
  hsw_off : s.hsw.armed = false

/-- No wait is going on and nothing is in flight: what leaving a wait brings about (R132). -/
structure Settled (s : State) : Prop extends Stopped s where
  slot_free : s.iff.valid = false

/-- What is running is what `MS` waits for, and an awaited acknowledgment is that of a queued upper-layer frame. Unlike the
invariants this survives the clearing of `SCE.pending` (R245), which R64 does not. -/
structure Accounted (s : State) : Prop extends QueueOk s where
  arbRun_iff : s.arbRun = true ↔ s.ms = .channelAccess
  ackw_iff : s.ackw.armed = true ↔ s.ms = .ackPending
  hsw_wait : s.hsw.armed = true → isHandshakeWait s.ms = true
  slot_empty : s.ms = .idle ∨ s.ms = .channelAccess → s.iff.valid = false
  ack_owner : s.ms = .ackPending → ∃ e ∈ s.txq, e.origin = .upstream

variable {s t : State}

theorem queueOk_of_invariants (h : Invariants s) : QueueOk s := ⟨h.retry_le, h.retry_owner, h.depth, h.entries⟩

theorem QueueOk.congr (h : QueueOk s) (hcfg : t.cfg = s.cfg) (hretry : t.retryCnt = s.retryCnt)
    (htxq : t.txq = s.txq) : QueueOk t := by
  refine ⟨?_, ?_, ?_, ?_⟩ <;> simp only [hcfg, hretry, htxq]
  exacts [h.retry_le, h.retry_owner, h.depth, h.entries]

/-- What `Stopped` reads of a state. -/
def stoppedCore (s : State) : Config × Nat × List OutFrame × Bool × Bool × Bool :=
  (s.cfg, s.retryCnt, s.txq, s.arbRun, s.ackw.armed, s.hsw.armed)

theorem Stopped.congr (h : Stopped s) (hcore : stoppedCore t = stoppedCore s) : Stopped t := by
  simp only [stoppedCore, Prod.mk.injEq] at hcore
  obtain ⟨hcfg, hretry, htxq, harb, hackw, hhsw⟩ := hcore
  exact ⟨h.toQueueOk.congr hcfg hretry htxq, harb.trans h.arbRun_off, hackw.trans h.ackw_off, hhsw.trans h.hsw_off⟩

theorem Settled.congr (h : Settled s) (hcore : stoppedCore t = stoppedCore s) (hslot : t.iff.valid = s.iff.valid) :
    Settled t :=
  ⟨h.toStopped.congr hcore, hslot.trans h.slot_free⟩

theorem Settled.trace (h : Settled s) (event : TraceEvent) : Settled (trace event s) := h.congr rfl rfl

/-- What the invariants read of a state. -/
def invariantCore (s : State) : Config × MacState × Bool × Nat × InFlight × List OutFrame × Bool × Bool × Bool :=
  (s.cfg, s.ms, s.arbRun, s.retryCnt, s.iff, s.txq, s.ackw.armed, s.sce.pending, s.hsw.armed)

theorem invariants_congr (h : Invariants s) (hcore : invariantCore t = invariantCore s) : Invariants t := by
  simp only [invariantCore, Prod.mk.injEq] at hcore
  obtain ⟨hcfg, hms, harb, hretry, hiff, htxq, hackw, hsce, hhsw⟩ := hcore
  constructor <;> simp only [hcfg, hms, harb, hretry, hiff, htxq, hackw, hsce, hhsw]
  exacts [h.arbRun_iff, h.ackw_iff, h.retry_le, h.retry_owner, h.quiescent, h.slot_empty, h.slot_full,
    h.ackPending_slot, h.wait_slot, h.sending_slot, h.head_is_slot, h.candidate, h.hsw_wait, h.depth, h.entries]

theorem invariants_emit (h : Invariants s) (a : Action) : Invariants (emit a s) := invariants_congr h rfl

theorem invariants_trace (h : Invariants s) (event : TraceEvent) : Invariants (trace event s) := invariants_congr h rfl

theorem invariants_setHs (h : Invariants s) (hs : HsContext) : Invariants { s with hs := hs } := invariants_congr h rfl

/-! ### What the invariants ask in each MAC state -/

theorem invariants_idle (h : Settled t) (hms : t.ms = .idle) (hquiet : t.sce.pending = false → t.txq = []) :
    Invariants t := by
  apply Invariants.mk (retry_le := h.retry_le) (retry_owner := h.retry_owner) (depth := h.depth)
    (entries := h.entries) (quiescent := fun _ => hquiet) <;>
    simp [hms, h.arbRun_off, h.ackw_off, h.hsw_off, h.slot_free, isHandshakeWait]

theorem invariants_channelAccess (h : QueueOk t) (hms : t.ms = .channelAccess) (harb : t.arbRun = true)
    (hackw : t.ackw.armed = false) (hhsw : t.hsw.armed = false) (hslot : t.iff.valid = false) (hcand : t.txq ≠ []) :
    Invariants t := by
  apply Invariants.mk (retry_le := h.retry_le) (retry_owner := h.retry_owner) (depth := h.depth)
    (entries := h.entries) <;>
    simp [hms, harb, hackw, hhsw, hslot, hcand, isHandshakeWait]

theorem invariants_sending (h : QueueOk t) (hms : t.ms = .sending) (harb : t.arbRun = false)
    (hackw : t.ackw.armed = false) (hhsw : t.hsw.armed = false) (hslot : t.iff.valid = true)
    (hhead : t.iff.inQueue = true → t.txq.head? = some (slotRecord t.iff))
    (hack : t.iff.inQueue = false → t.iff.tag = .ack ∧ t.iff.origin = .ackgen) : Invariants t := by
  apply Invariants.mk (retry_le := h.retry_le) (retry_owner := h.retry_owner) (depth := h.depth)
    (entries := h.entries) (sending_slot := fun _ => hack) (head_is_slot := fun _ => hhead) <;>
    simp [hms, harb, hackw, hhsw, hslot, isHandshakeWait]

theorem invariants_ackPending (h : QueueOk t) (hms : t.ms = .ackPending) (harb : t.arbRun = false)
    (hackw : t.ackw.armed = true) (hhsw : t.hsw.armed = false) (hslot : t.iff.valid = true)
    (hframe : t.iff.tag = .data ∧ t.iff.ackreq = true ∧ t.iff.inQueue = true ∧ t.iff.origin = .upstream)
    (hhead : t.txq.head? = some (slotRecord t.iff)) : Invariants t := by
  apply Invariants.mk (retry_le := h.retry_le) (retry_owner := h.retry_owner) (depth := h.depth)
    (entries := h.entries) (ackPending_slot := fun _ => hframe) (head_is_slot := fun _ _ => hhead) <;>
    simp [hms, harb, hackw, hhsw, hslot, isHandshakeWait]

theorem ne_of_isHandshakeWait {m : MacState} (h : isHandshakeWait m = true) :
    m ≠ .idle ∧ m ≠ .channelAccess ∧ m ≠ .sending ∧ m ≠ .ackPending := by
  cases m <;> simp [isHandshakeWait] at h ⊢

/-- In `EnergyPending`, and in no other handshake wait, the slot may be empty (R168, R233). -/
theorem invariants_handshakeWait (h : QueueOk t) (hms : isHandshakeWait t.ms = true) (harb : t.arbRun = false)
    (hackw : t.ackw.armed = false) (hslot : t.ms = .energyPending ∨ t.iff.valid = true)
    (hleft : t.iff.valid = true → t.iff.inQueue = false) : Invariants t := by
  obtain ⟨hidle, hca, hsend, hackp⟩ := ne_of_isHandshakeWait hms
  have hfull : t.ms = .sending ∨ t.ms = .ackPending ∨ t.ms = .cfePending ∨ t.ms = .cfeAckPending →
      t.iff.valid = true := by
    rcases hslot with he | hv
    · simp [he]
    · exact fun _ => hv
  have hhead : t.iff.valid = true → t.iff.inQueue = true → t.txq.head? = some (slotRecord t.iff) :=
    fun hv hq => by simp [hleft hv] at hq
  apply Invariants.mk (retry_le := h.retry_le) (retry_owner := h.retry_owner) (depth := h.depth)
    (entries := h.entries) (slot_full := hfull) (wait_slot := fun _ => hleft) (head_is_slot := hhead) <;>
    simp [hidle, hca, hsend, hackp, hms, harb, hackw]

/-! ### The queue: taking the head, inserting an entry -/

/-- An upper-layer entry behind a head that is not one stays when the head is popped. -/
theorem exists_upstream_tail (hhead : (queueHead s).origin ≠ .upstream) (h : ∃ e ∈ s.txq, e.origin = .upstream) :
    ∃ e ∈ s.txq.tail, e.origin = .upstream := by
  obtain ⟨e, he, ho⟩ := h
  cases hq : s.txq with
  | nil => simp [hq] at he
  | cons head rest =>
    rw [queueHead_cons hq] at hhead
    rcases List.mem_cons.1 (hq ▸ he) with rfl | hrest
    · exact absurd ho hhead
    · exact ⟨e, hrest, ho⟩

/-- A popped upper-layer frame takes its retry count with it; behind a popped handshake frame the count's owner stays. -/
theorem QueueOk.of_tail (h : QueueOk s) (hcfg : t.cfg = s.cfg) (htxq : t.txq = s.txq.tail)
    (hretry : t.retryCnt = 0 ∨ ((queueHead s).origin ≠ .upstream ∧ t.retryCnt = s.retryCnt)) : QueueOk t := by
  refine ⟨?_, ?_, ?_, ?_⟩
  · rcases hretry with h0 | ⟨_, hsame⟩
    · simp [h0]
    · simpa [hsame, hcfg] using h.retry_le
  · intro hne
    rcases hretry with h0 | ⟨hhead, hsame⟩
    · exact absurd h0 hne
    · exact htxq ▸ exists_upstream_tail hhead (h.retry_owner (hsame ▸ hne))
  · intro d hd
    have hle := h.depth d (hcfg ▸ hd)
    rw [htxq, List.length_tail]
    omega
  · intro e he
    exact h.entries e (List.mem_of_mem_tail (htxq ▸ he))

theorem QueueOk.removeHead (h : QueueOk s) : QueueOk (removeHead s) := by
  rcases removeHead_cases s with ⟨_, heq⟩ | ⟨hhead, heq⟩ <;> rw [heq]
  · exact h.of_tail rfl rfl (.inl rfl)
  · exact h.of_tail rfl rfl (.inr ⟨hhead, rfl⟩)

/-- Wherever the new entry goes: R147 queues at the back, R246 at either end. -/
theorem QueueOk.of_perm_cons {e : OutFrame} (h : QueueOk s) (hroom : queueFull s = false) (he : EntryOk e)
    (hcfg : t.cfg = s.cfg) (hretry : t.retryCnt = s.retryCnt) (htxq : t.txq.Perm (e :: s.txq)) : QueueOk t := by
  refine ⟨by simpa [hcfg, hretry] using h.retry_le, ?_, ?_, ?_⟩
  · intro hne
    obtain ⟨x, hx, ho⟩ := h.retry_owner (hretry ▸ hne)
    exact ⟨x, htxq.mem_iff.2 (List.mem_cons_of_mem _ hx), ho⟩
  · intro d hd
    rw [hcfg] at hd
    have hle := h.depth d hd
    have hne : d ≠ s.txq.length := by simpa [queueFull, hd] using hroom
    rw [htxq.length_eq, List.length_cons]
    omega
  · intro x hx
    rcases List.mem_cons.1 (htxq.mem_iff.1 hx) with rfl | hmem
    · exact he
    · exact h.entries x hmem

/-! ### Leaving a wait -/

theorem accounted_of_invariants (h : Invariants s) : Accounted s where
  toQueueOk := queueOk_of_invariants h
  arbRun_iff := h.arbRun_iff
  ackw_iff := h.ackw_iff
  hsw_wait := h.hsw_wait
  slot_empty := h.slot_empty
  ack_owner := fun hms => by
    obtain ⟨_, _, hqueued, horigin⟩ := h.ackPending_slot hms
    have hhead := h.head_is_slot (h.slot_full (.inr (.inl hms))) hqueued
    exact ⟨slotRecord s.iff, List.mem_of_mem_head? hhead, horigin⟩

theorem Accounted.sceCancel (h : Accounted s) : Accounted (sceCancel s) :=
  ⟨⟨h.retry_le, h.retry_owner, h.depth, h.entries⟩, h.arbRun_iff, h.ackw_iff, h.hsw_wait, h.slot_empty, h.ack_owner⟩

theorem Accounted.arbRun_off (h : Accounted s) (hms : s.ms ≠ .channelAccess) : s.arbRun = false := by
  simpa [hms] using h.arbRun_iff

theorem Accounted.ackw_off (h : Accounted s) (hms : s.ms ≠ .ackPending) : s.ackw.armed = false := by
  simpa [hms] using h.ackw_iff

theorem Accounted.hsw_off (h : Accounted s) (hms : isHandshakeWait s.ms = false) : s.hsw.armed = false := by
  simpa [hms] using h.hsw_wait

theorem Accounted.settled_idle (h : Accounted s) (hms : s.ms = .idle) : Settled s :=
  ⟨⟨h.toQueueOk, h.arbRun_off (by simp [hms]), h.ackw_off (by simp [hms]), h.hsw_off (by simp [hms, isHandshakeWait])⟩,
    h.slot_empty (.inl hms)⟩

theorem Accounted.settled_arbiterOff (h : Accounted s) (hms : s.ms = .channelAccess) :
    Settled { s with arbRun := false } :=
  ⟨⟨h.toQueueOk.congr rfl rfl rfl, rfl, h.ackw_off (by simp [hms]), h.hsw_off (by simp [hms, isHandshakeWait])⟩,
    h.slot_empty (.inr hms)⟩

theorem Accounted.stopped_sending (h : Accounted s) (hms : s.ms = .sending) : Stopped s :=
  ⟨h.toQueueOk, h.arbRun_off (by simp [hms]), h.ackw_off (by simp [hms]), h.hsw_off (by simp [hms, isHandshakeWait])⟩

theorem Accounted.stopped_ackwCancel (h : Accounted s) (hms : s.ms = .ackPending) : Stopped (ackwCancel s) :=
  ⟨h.toQueueOk.congr rfl rfl rfl, h.arbRun_off (by simp [hms]), rfl, h.hsw_off (by simp [hms, isHandshakeWait])⟩

theorem Accounted.stopped_hswCancel (h : Accounted s) (hms : isHandshakeWait s.ms = true) : Stopped (hswCancel s) := by
  obtain ⟨_, hca, _, hack⟩ := ne_of_isHandshakeWait hms
  exact ⟨h.toQueueOk.congr rfl rfl rfl, h.arbRun_off hca, h.ackw_off hack, rfl⟩

/-- R212, R63: the count is raised below its bound only, for the queued frame whose acknowledgment is missing. -/
theorem Accounted.settled_prepareRetransmission (h : Accounted s) (hms : s.ms = .ackPending) :
    Settled (prepareRetransmission s) := by
  have harb := h.arbRun_off (by simp [hms])
  have hhsw := h.hsw_off (by simp [hms, isHandshakeWait])
  rcases prepareRetransmission_cases s with ⟨hlt, heq⟩ | ⟨_, _, heq⟩ | ⟨_, hhead, heq⟩ <;> rw [heq]
  · exact ⟨⟨⟨hlt, fun _ => h.ack_owner hms, h.depth, h.entries⟩, harb, rfl, hhsw⟩, rfl⟩
  · exact ⟨⟨h.toQueueOk.of_tail rfl rfl (.inl rfl), harb, rfl, hhsw⟩, rfl⟩
  · exact ⟨⟨h.toQueueOk.of_tail rfl rfl (.inr ⟨hhead, rfl⟩), harb, rfl, hhsw⟩, rfl⟩

theorem Stopped.iffClear (h : Stopped s) : Settled (iffClear s) :=
  ⟨h.congr rfl, rfl⟩

/-- R132: leaving whatever the block waits for settles it. -/
theorem Accounted.settled_abandonCurrent (h : Accounted s) (hms : s.ms ≠ .sending) : Settled (abandonCurrent s) := by
  by_cases hwait : isHandshakeWait s.ms = true
  · rw [abandonCurrent_wait hwait]
    exact (h.stopped_hswCancel hwait).iffClear.congr rfl rfl
  · cases hm : s.ms with
    | idle =>
      rw [abandonCurrent_idle hm]
      exact h.settled_idle hm
    | channelAccess =>
      rw [abandonCurrent_channelAccess hm]
      rcases arbCancel_cases s with ⟨_, heq⟩ | ⟨hoff, _⟩
      · rw [heq]
        exact (h.settled_arbiterOff hm).congr rfl rfl
      · exact absurd (h.arbRun_iff.2 hm) (by simp [hoff])
    | sending => exact absurd hm hms
    | ackPending =>
      rw [abandonCurrent_ackPending hm]
      exact h.settled_prepareRetransmission hm
    | cfePending | cfeAckPending | energyPending => simp [hm, isHandshakeWait] at hwait

/-! ### Entering a state from a settled one -/

/-- R120: the Arbiter is started for a waiting frame unless an action is scheduled, which is R64. -/
theorem Settled.enterIdle (h : Settled s) : Invariants (enterIdle s) := by
  rcases enterIdle_cases s with ⟨hq, _, _, heq⟩ | ⟨hn, heq⟩ <;> rw [heq]
  · exact invariants_channelAccess (h.toQueueOk.congr rfl rfl rfl) rfl rfl h.ackw_off h.hsw_off h.slot_free hq
  · refine invariants_idle (h.congr rfl rfl) rfl fun hp => ?_
    by_contra hq
    exact hn ⟨hq, h.slot_free, hp⟩

theorem Settled.checkQueue (h : Settled s) (hms : s.ms = .idle) : Invariants (checkQueue s) := by
  rcases checkQueue_cases s with ⟨_, hq, _, _, heq⟩ | ⟨hn, heq⟩ <;> rw [heq]
  · exact invariants_channelAccess (h.toQueueOk.congr rfl rfl rfl) rfl rfl h.ackw_off h.hsw_off h.slot_free hq
  · refine invariants_idle h hms fun hp => ?_
    by_contra hq
    exact hn ⟨hms, hq, h.slot_free, hp⟩

theorem Settled.enterSending {e : OutFrame} {inQueue : Bool} (h : Settled s)
    (hhead : inQueue = true → s.txq.head? = some e) (hack : inQueue = false → e.tag = .ack ∧ e.origin = .ackgen) :
    Invariants (enterSending e inQueue s) := by
  rw [enterSending_eq]
  exact invariants_sending (h.toQueueOk.congr rfl rfl rfl) rfl h.arbRun_off h.ackw_off h.hsw_off rfl hhead hack

/-! ### Popping the head while nothing runs -/

theorem Stopped.confirmHead (h : Stopped s) (status : Status) : Stopped (confirmHead status s) := by
  obtain ⟨_, heq⟩ := confirmHead_writes s status
  exact h.congr (by rw [heq]; rfl)

theorem Stopped.trace (h : Stopped s) (event : TraceEvent) : Stopped (trace event s) := h.congr rfl

theorem Stopped.hsClear (h : Stopped s) : Stopped (hsClear s) := h.congr rfl

theorem Stopped.removeHead (h : Stopped s) : Stopped (removeHead s) := by
  have hqueue := h.toQueueOk.removeHead
  obtain ⟨_, _, heq⟩ := removeHead_writes s
  rw [heq] at hqueue ⊢
  exact ⟨hqueue, h.arbRun_off, h.ackw_off, h.hsw_off⟩

@[simp] theorem confirmHead_iff (status : Status) (s : State) : (confirmHead status s).iff = s.iff := by
  obtain ⟨_, heq⟩ := confirmHead_writes s status
  rw [heq]

@[simp] theorem removeHead_iff (s : State) : (removeHead s).iff = s.iff := by
  obtain ⟨_, _, heq⟩ := removeHead_writes s
  rw [heq]

/-! ### CCA_CONF -/

theorem invariants_channelIdle (h : Invariants s) (hms : s.ms = .channelAccess) : Invariants (channelIdle s) := by
  refine ((accounted_of_invariants h).settled_arbiterOff hms).enterSending (fun _ => ?_) (by simp)
  obtain ⟨e, rest, hq⟩ := List.exists_cons_of_ne_nil (h.candidate hms)
  simp [hq, queueHead_cons hq]

theorem invariants_channelAccessFailed (h : Invariants s) (hms : s.ms = .channelAccess) :
    Invariants (channelAccessFailed s) := by
  have hoff := (accounted_of_invariants h).settled_arbiterOff hms
  refine Settled.enterIdle ⟨((hoff.toStopped.confirmHead _).trace _).removeHead, ?_⟩
  simpa using hoff.slot_free

theorem invariants_ccaConfirmed (h : Invariants s) (code : BitVec 3) : Invariants (ccaConfirmed code s) := by
  unfold ccaConfirmed
  split
  · exact invariants_congr h rfl
  · split
    · next hms =>
      split
      · exact invariants_channelIdle h hms
      · exact invariants_channelAccessFailed h hms
    · exact invariants_congr h rfl

/-! ### TRX_CONF and TX_CONF -/

/-- The fatal entry halts the block, and the invariants are asked of a block that is not halted only. -/
theorem inv_fatal (reason : FatalReason) (code : BitVec 3) (s : State) : Inv (fatal reason code s) := by
  intro hf
  rw [fatal_eq] at hf
  exact absurd hf (by simp)

theorem invariants_issueTransmit (h : Invariants s) : Invariants (issueTransmit s) := by
  unfold issueTransmit
  split
  · exact h
  · exact invariants_congr h rfl

theorem inv_trxConfirmed (h : Invariants s) (code : BitVec 3) : Inv (trxConfirmed code s) := by
  unfold trxConfirmed
  split
  · exact fun _ => invariants_congr h rfl
  · split
    · split
      · exact fun _ => invariants_issueTransmit h
      · exact fun _ => h
    · exact inv_fatal _ _ _

/-- In `Sending`, a frame with the tag `Data` is the queue's head (R216), and the upper layer's (R143, R246). -/
theorem sending_data_head (h : Invariants s) (hms : s.ms = .sending) (htag : s.iff.tag = .data) :
    s.iff.inQueue = true ∧ s.txq.head? = some (slotRecord s.iff) ∧ s.iff.origin = .upstream := by
  have hqueued : s.iff.inQueue = true := by
    by_contra hnot
    have hack := (h.sending_slot hms (by simpa using hnot)).1
    simp [htag] at hack
  have hhead := h.head_is_slot (h.slot_full (.inl hms)) hqueued
  refine ⟨hqueued, hhead, ?_⟩
  rcases h.entries _ (List.mem_of_mem_head? hhead) with ⟨horigin, _⟩ | ⟨_, hother, _⟩
  · exact horigin
  · simp [slotRecord, htag] at hother

theorem invariants_awaitAck (h : Invariants s) (hms : s.ms = .sending) (htag : s.iff.tag = .data)
    (hreq : s.iff.ackreq = true) : Invariants (awaitAck s) := by
  obtain ⟨hqueued, hhead, horigin⟩ := sending_data_head h hms htag
  have hstop := (accounted_of_invariants h).stopped_sending hms
  exact invariants_ackPending (hstop.toQueueOk.congr rfl rfl rfl) rfl hstop.arbRun_off rfl hstop.hsw_off
    (h.slot_full (.inl hms)) ⟨htag, hreq, hqueued, horigin⟩ hhead

/-- The queue part of R168 and R169: a frame that is still queued is confirmed and popped. -/
theorem Stopped.release (h : Stopped s) :
    Stopped (if s.iff.inQueue then s |> Machine.confirmHead .success |> Machine.removeHead else s) := by
  split
  · exact (h.confirmHead _).removeHead
  · exact h

/-- R129: a handshake wait is entered with the timer armed, where timeouts are enabled. -/
theorem Stopped.hswArm (h : Stopped s) (hms : isHandshakeWait s.ms = true)
    (hslot : s.ms = .energyPending ∨ s.iff.valid = true) (hleft : s.iff.valid = true → s.iff.inQueue = false) :
    Invariants (hswArm s) := by
  obtain ⟨_, heq⟩ := hswArm_writes s
  rw [heq]
  exact invariants_handshakeWait (h.toQueueOk.congr rfl rfl rfl) hms h.arbRun_off h.ackw_off hslot hleft

/-- R168: the slot stays full, and its frame is in the queue no more. -/
theorem invariants_awaitHandshake (h : Stopped s) (hslot : s.iff.valid = true) {next : MacState}
    (hnext : isHandshakeWait next = true) : Invariants (awaitHandshake next s) := by
  unfold awaitHandshake
  split
  · refine invariants_emit (Stopped.hswArm ?_ hnext (.inr ?_) fun _ => rfl) _
    · exact (h.confirmHead .success).removeHead.congr rfl
    · simpa using hslot
  · next hleft =>
    have hstop : Stopped { s with ms := next } := h.congr rfl
    exact invariants_emit (hstop.hswArm hnext (.inr hslot) fun _ => by simpa using hleft) _

theorem invariants_transmissionDone (h : Stopped s) : Invariants (transmissionDone s) := by
  have hrel := h.release
  unfold transmissionDone
  refine Settled.enterIdle ?_
  split
  · exact hrel.hsClear.iffClear
  · exact hrel.iffClear

theorem invariants_transmitted (h : Invariants s) (hms : s.ms = .sending) : Invariants (transmitted s) := by
  have htraced : Invariants (trace (.txDone s.iff.tag s.iff.seq) s) := invariants_congr h rfl
  have hslot := h.slot_full (.inl hms)
  have hstop : Stopped (trace (.txDone s.iff.tag s.iff.seq) s) :=
    ((accounted_of_invariants h).stopped_sending hms).congr rfl
  unfold transmitted
  cases htag : s.iff.tag with
  | data =>
    rw [htag] at htraced hstop
    dsimp only
    split
    · next hreq => exact invariants_awaitAck htraced hms htag hreq
    · exact invariants_transmissionDone hstop
  | rfe | cfe | cfeAck =>
    rw [htag] at hstop
    exact invariants_awaitHandshake hstop hslot rfl
  | energy | ack | unused | untagged =>
    rw [htag] at hstop
    exact invariants_transmissionDone hstop

theorem inv_txConfirmed (h : Invariants s) (code : BitVec 3) : Inv (txConfirmed code s) := by
  unfold txConfirmed
  split
  · next hok => exact fun _ => invariants_transmitted h hok.1
  · exact inv_fatal _ _ _

/-! ### RX_FRAME -/

theorem invariants_retryOrGiveUp (h : Invariants s) (hms : s.ms = .ackPending) : Invariants (retryOrGiveUp s) :=
  ((accounted_of_invariants h).settled_prepareRetransmission hms).enterIdle

theorem invariants_ackMatched (h : Invariants s) (hms : s.ms = .ackPending) (head : Header) :
    Invariants (ackMatched head s) := by
  have hstop := (accounted_of_invariants h).stopped_ackwCancel hms
  exact (((hstop.confirmHead _).trace _).removeHead.iffClear).enterIdle

theorem invariants_ackReceived (h : Invariants s) (head : Header) : Invariants (ackReceived head s) := by
  unfold ackReceived
  split
  · next hms =>
    split
    · exact invariants_ackMatched h hms head
    · exact invariants_retryOrGiveUp (invariants_congr h rfl) hms
  · exact invariants_congr h rfl

/-- R215: a generated ACK takes the slot from whatever the block was waiting for. -/
theorem invariants_generateAck (h : Invariants s) (hms : s.ms ≠ .sending) (seq : SeqNo) :
    Invariants (generateAck seq s) := by
  have hleft := (accounted_of_invariants h).settled_abandonCurrent hms
  have hcancelled : Settled (sceCancel (abandonCurrent s)) := hleft.congr rfl rfl
  exact hcancelled.enterSending (by simp) (fun _ => ⟨rfl, rfl⟩)

/-- A scheduled action excuses R64, and no other invariant reads the schedule. -/
theorem invariants_sceSchedule (h : Invariants s) (action : SceAction) (delay : Delay) :
    Invariants (sceSchedule action delay s) :=
  { h with quiescent := by simp }

theorem invariants_donorRfe (h : Invariants s) (hms : s.ms ≠ .sending) (head : Header) (m : Metadata) :
    Invariants (donorRfe head m s) := by
  unfold donorRfe
  split
  · have hleft := (accounted_of_invariants h).sceCancel.settled_abandonCurrent hms
    obtain ⟨_, heq⟩ := forceIdle_writes (abandonCurrent (sceCancel s))
    simp only [heq]
    exact invariants_idle (hleft.congr rfl rfl) rfl (by simp)
  · exact invariants_congr h rfl

theorem invariants_sensorFreeze (h : Invariants s)
    (hms : s.ms = .idle ∨ s.ms = .channelAccess ∨ s.ms = .energyPending) (head : Header) (m : Metadata) :
    Invariants (sensorFreeze head m s) := by
  have hackw : s.ackw.armed = false :=
    (accounted_of_invariants h).ackw_off (by rcases hms with hm | hm | hm <;> simp [hm])
  have hleft : s.iff.valid = true → s.iff.inQueue = false := by
    rcases hms with hm | hm | hm
    · simp [h.slot_empty (.inl hm)]
    · simp [h.slot_empty (.inr hm)]
    · exact h.wait_slot (by simp [hm, isHandshakeWait])
  obtain ⟨_, heq⟩ := arbCancel_writes (sceCancel s)
  simp only [sensorFreeze, heq]
  refine invariants_trace ?_ _
  refine Stopped.hswArm ?_ rfl (Or.inl rfl) hleft
  exact ⟨(queueOk_of_invariants h).congr rfl rfl rfl, rfl, hackw, rfl⟩

theorem invariants_sensorRfe (h : Invariants s) (head : Header) (m : Metadata) : Invariants (sensorRfe head m s) := by
  unfold sensorRfe
  split
  · next hms => exact invariants_sensorFreeze h (.inl hms) head m
  · next hms => exact invariants_sensorFreeze h (.inr (.inl hms)) head m
  · next hms => exact invariants_sensorFreeze h (.inr (.inr hms)) head m
  all_goals exact invariants_congr h rfl

theorem invariants_honourCfeAck (h : Invariants s) (m : Metadata) : Invariants (honourCfeAck m s) := by
  have hscheduled := invariants_sceSchedule h .emitEnergy 0#32
  exact invariants_congr hscheduled rfl

/-- R230: every reaction keeps the invariants. -/
theorem invariants_hsReact (h : Invariants s) (hms : s.ms ≠ .sending) (head : Header) (m : Metadata) :
    Invariants (hsReact head m s) := by
  unfold hsReact
  cases m.tag with
  | rfe =>
    cases s.cfg.role with
    | energyDonor => exact invariants_donorRfe h hms head m
    | sensor => exact invariants_sensorRfe h head m
  | cfe => cases s.cfg.role <;> exact invariants_congr h rfl
  | cfeAck =>
    dsimp only
    split
    · exact invariants_honourCfeAck h m
    · exact invariants_congr h rfl
  | energy | data | ack | unused | untagged => exact invariants_congr h rfl

theorem invariants_reactToFrame (h : Invariants s) (head : Header) (m : Metadata) :
    Invariants (reactToFrame head m s) := by
  unfold reactToFrame
  split
  · obtain ⟨_, heq⟩ := receivedWhileSending_writes s head m
    rw [heq]
    exact invariants_congr h rfl
  · next hms =>
    split
    · split
      · exact invariants_generateAck (invariants_trace h _) hms _
      · exact invariants_generateAck h hms _
    · split
      · exact invariants_hsReact h hms head m
      · exact h

theorem invariants_dataAccepted (h : Invariants s) (head : Header) (m : Metadata) (lqi : Lqi) (f : Frame) :
    Invariants (dataAccepted head m lqi f s) := by
  obtain ⟨_, heq⟩ := indicate_writes (reactToFrame head m s) head m lqi f
  simp only [dataAccepted, heq]
  exact invariants_congr (invariants_reactToFrame h head m) rfl

theorem invariants_dispatchFrame (h : Invariants s) (head : Header) (m : Metadata) (lqi : Lqi) (f : Frame) :
    Invariants (dispatchFrame head m lqi f s) := by
  unfold dispatchFrame
  split
  · exact invariants_ackReceived h head
  · exact invariants_congr h rfl
  · exact invariants_dataAccepted h head m lqi f
  · exact invariants_congr (invariants_dataAccepted h head m lqi f) rfl
  · exact h

theorem invariants_frameReceived (h : Invariants s) (inj : Bool) (lqi : Lqi) (f : Frame) :
    Invariants (frameReceived inj lqi f s) := by
  obtain ⟨_, heq⟩ := sniffed_writes s f
  have hsniffed : Invariants (sniffed f s) := by
    rw [heq]
    exact invariants_congr h rfl
  unfold frameReceived
  split
  · split
    · exact invariants_congr h rfl
    · split
      · exact invariants_congr hsniffed rfl
      · exact invariants_dispatchFrame hsniffed _ _ _ _
  · exact invariants_congr h rfl

/-! ### ENERGY_SAMPLE -/

/-- R243, R249: a handshake wait ends in `Idle`, with the schedule and the context cleared. -/
theorem invariants_endWait (h : Invariants s) (hms : isHandshakeWait s.ms = true) :
    Invariants (enterIdle (iffClear (hsClear (sceCancel (hswCancel s))))) := by
  have hstop : Stopped (sceCancel (hswCancel s)) := ((accounted_of_invariants h).stopped_hswCancel hms).congr rfl
  exact hstop.hsClear.iffClear.enterIdle

theorem invariants_sampleTotal (h : Invariants s) : Invariants (sampleTotal s) := by
  unfold sampleTotal
  dsimp only
  split
  · next hms =>
    have htraced : Invariants (s |> trace (.hsSample 0#3 s.mailbox.energy)
      |> emit (.energyIndication s.mailbox.energy) |> trace (.hsDone s.mailbox.energy)) := invariants_congr h rfl
    exact invariants_endWait htraced (by simp [hms, isHandshakeWait])
  · exact invariants_congr h rfl

theorem invariants_sampleSecond (h : Invariants s) : Invariants (sampleSecond s) := by
  unfold sampleSecond
  dsimp only
  split
  · split
    · exact invariants_congr h rfl
    · exact invariants_sceSchedule (invariants_setHs (invariants_setHs (invariants_trace (invariants_setHs h _) _) _) _) _ _
  · exact invariants_congr h rfl

theorem invariants_energySampled (h : Invariants s) (slot : BitVec 3) : Invariants (energySampled slot s) := by
  unfold energySampled
  split
  · exact invariants_sampleTotal h
  · exact invariants_congr h rfl
  · exact invariants_sampleSecond h
  · exact invariants_congr h rfl
  · exact invariants_congr h rfl

/-! ### SCE_FIRE and HSWAIT_FIRE -/

theorem entryOk_handshakeEntry (action : SceAction) (s : State) : EntryOk (handshakeEntry action s) := by
  cases action <;> simp [EntryOk, handshakeEntry, hsParams]

/-- R246: what is emitted is a proper internal entry, put into a queue with room. -/
theorem Settled.emitHs (h : Settled s) (action : SceAction) : Settled (emitHs action s) := by
  rcases emitHs_cases action s with ⟨_, heq⟩ | ⟨hroom, _, heq⟩ <;> rw [heq]
  · exact h.congr rfl rfl
  · have hentry := entryOk_handshakeEntry action s
    refine ⟨⟨h.toQueueOk.of_perm_cons hroom hentry rfl rfl ?_, h.arbRun_off, h.ackw_off, h.hsw_off⟩, h.slot_free⟩
    dsimp only
    split
    · exact .refl _
    · exact List.perm_append_singleton _ _

theorem emitHs_ms (action : SceAction) (s : State) : (emitHs action s).ms = s.ms := by
  rcases emitHs_cases action s with ⟨_, heq⟩ | ⟨_, _, heq⟩ <;> rw [heq]

theorem invariants_sceFired (h : Invariants s) (hms : s.ms ≠ .sending) : Invariants (sceFired s) := by
  have hleft : Settled (abandonCurrent (sceCancel s)) :=
    (accounted_of_invariants h).sceCancel.settled_abandonCurrent hms
  obtain ⟨_, heq⟩ := forceIdle_writes (abandonCurrent (sceCancel s))
  have hidle : Settled (forceIdle (abandonCurrent (sceCancel s))) := by
    rw [heq]
    exact hleft.congr rfl rfl
  refine (hidle.emitHs s.sce.action).checkQueue ?_
  rw [emitHs_ms, heq]

theorem invariants_hsTimedOut (h : Invariants s) (harmed : s.hsw.armed = true) : Invariants (hsTimedOut s) :=
  invariants_endWait (invariants_trace h .hsTimeout) (h.hsw_wait harmed)

/-! ### SUBMIT -/

theorem Settled.pushBack {e : OutFrame} (h : Settled s) (hroom : queueFull s = false) (he : EntryOk e) :
    Settled (pushBack e s) :=
  ⟨⟨h.toQueueOk.of_perm_cons hroom he rfl rfl (List.perm_append_singleton e s.txq), h.arbRun_off, h.ackw_off,
    h.hsw_off⟩, h.slot_free⟩

/-- Outside `Idle` a new entry at the back changes neither the head nor anything else the invariants read. -/
theorem invariants_pushBack {e : OutFrame} (h : Invariants s) (hms : s.ms ≠ .idle) (hroom : queueFull s = false)
    (he : EntryOk e) : Invariants (pushBack e s) :=
  have hqueue : QueueOk (pushBack e s) :=
    (queueOk_of_invariants h).of_perm_cons hroom he rfl rfl (List.perm_append_singleton e s.txq)
  { hqueue, h with
    quiescent := fun hidle => absurd hidle hms
    candidate := fun _ => by simp
    head_is_slot := fun hv hq => by simp [h.head_is_slot hv hq] }

theorem invariants_checkQueue (h : Invariants s) (hms : s.ms ≠ .idle) : Invariants (checkQueue s) := by
  simpa [checkQueue, hms] using h

theorem invariants_enqueueSubmission (h : Invariants s) (hroom : queueFull s = false) (handle : Handle) {tag : Tag}
    (htag : tag ≠ .ack ∧ tag ≠ .unused ∧ tag ≠ .untagged) (p : SubmitParams) :
    Invariants (enqueueSubmission handle tag p s) := by
  by_cases hms : s.ms = .idle
  · have hset : Settled { s with dsn := s.dsn + 1#8 } :=
      ((accounted_of_invariants h).settled_idle hms).congr rfl rfl
    exact ((hset.pushBack hroom (Or.inl ⟨rfl, htag⟩)).trace _).checkQueue hms
  · have hdsn : Invariants { s with dsn := s.dsn + 1#8 } := invariants_congr h rfl
    exact invariants_checkQueue (invariants_trace (invariants_pushBack hdsn hms hroom (Or.inl ⟨rfl, htag⟩)) _) hms

/-- R143: the tags of a submission that passes the checks. -/
theorem tag_of_submitVerdict_none {tag : Tag} {txopt : TxOpt} {srcMode dstMode : AddrMode} {low : BitVec 10}
    (h : submitVerdict tag txopt srcMode dstMode low s = none) : tag ≠ .ack ∧ tag ≠ .unused ∧ tag ≠ .untagged := by
  unfold submitVerdict at h
  split at h
  · cases h
  · split at h
    · cases h
    · split at h
      · cases h
      · next hparam =>
        simp only [invalidParameter, decide_eq_true_eq, not_or] at hparam
        obtain ⟨_, _, _, hack, hunused, huntagged⟩ := hparam
        exact ⟨hack, hunused, huntagged⟩

theorem invariants_submitted (h : Invariants s) (hroom : queueFull s = false) (handle : Handle) (tag : Tag)
    (txopt : TxOpt) (srcMode dstMode : AddrMode) (low : BitVec 10) :
    Invariants (submitted handle tag txopt srcMode dstMode low s) := by
  unfold submitted
  split
  · exact invariants_trace (invariants_emit h _) _
  · next hverdict => exact invariants_enqueueSubmission h hroom handle (tag_of_submitVerdict_none hverdict) _

/-! ### Every event, every step -/

theorem invariants_hold (h : Invariants s) (i : Instr) : Invariants (hold i s) := by
  rw [(hold_spec i s).1]
  exact invariants_congr h rfl

theorem invariants_configured (h : Invariants s) (reg : BitVec 4) : Invariants (configured reg s) := by
  unfold configured
  split <;> exact invariants_congr h rfl

theorem inv_effect (h : Invariants s) (i : Instr) : Inv (effect i s) := by
  cases i with
  | submit handle tag txopt srcMode dstMode low =>
    intro _
    dsimp only [effect]
    split
    · exact invariants_hold h _
    · next hroom => exact invariants_submitted h (by simpa [isHeld] using hroom) ..
  | ccaConf code => exact fun _ => invariants_ccaConfirmed h code
  | trxConf code => exact inv_trxConfirmed h code
  | txConf code => exact inv_txConfirmed h code
  | rxFrame inj lqi => exact fun _ => invariants_frameReceived h inj lqi _
  | energySample slot => exact fun _ => invariants_energySampled h slot
  | ackwaitFire =>
    intro _
    dsimp only [effect]
    split
    · next harmed => exact invariants_retryOrGiveUp h (h.ackw_iff.1 harmed)
    · exact invariants_trace h _
  | sceFire =>
    intro _
    dsimp only [effect]
    split
    · next hpending =>
      split
      · exact invariants_hold h _
      · next hfree => exact invariants_sceFired h (by simpa [isHeld, hpending] using hfree)
    · exact invariants_trace h _
  | hswaitFire =>
    intro _
    dsimp only [effect]
    split
    · next harmed => exact invariants_hsTimedOut h harmed
    · exact invariants_trace h _
  | cfgWrite reg => exact fun _ => invariants_configured h reg

theorem invariants_present (h : Invariants s) (ev : PortEvent) (rest : List PortEvent) :
    Invariants (present ev rest s) := invariants_congr h rfl

/-- Settles O12: a step waits, consumes an illegal word, or runs an event, and each of them keeps the invariants. -/
theorem everyStepKeepsTheInvariants : Obligations.EveryStepKeepsTheInvariants := by
  intro s t hinv hstep
  obtain ⟨hf, hcase⟩ := step_eq_next hstep
  have h := hinv hf
  rcases hcase with rfl | ⟨ev, rest, rfl | ⟨i, rfl⟩⟩
  · exact hinv
  · exact fun _ => invariants_trace (invariants_present h ev rest) _
  · exact inv_effect (invariants_present h ev rest) i

end Sys2Proof.Proofs.Invariance

/-! PROOFS. What events do to the parameters, the identity, the sequence counter and the queue, said once for every event
(`LastingStep`); O15, O16 and O18 read off its cases. -/

namespace Sys2Proof.Proofs.LastingPart

open Sys2Proof.Machine Sys2Proof.Safety Sys2Proof.Proofs.Event

/-! ### The registers that outlast a wait, and the queue -/

/-- The parameters and the identity (R8, R37, R38), and the sequence counter and the queue (R28, R32), which are written
together. -/
structure Lasting where
  cfg : Config
  shortAddr : ShortAddr
  panId : Pan
  extAddrLo : BitVec 32
  extAddrHi : BitVec 32
  promisc : Bool
  dsn : SeqNo
  txq : List OutFrame

def lasting (s : State) : Lasting :=
  { cfg := s.cfg, shortAddr := s.shortAddr, panId := s.panId, extAddrLo := s.extAddrLo, extAddrHi := s.extAddrHi,
    promisc := s.promisc, dsn := s.dsn, txq := s.txq }

/-- The head of the queue is gone. -/
def Lasting.popped (l : Lasting) : Lasting := { l with txq := l.txq.tail }

/-- At most the head of the queue is gone. -/
def Lasts (s t : State) : Prop := lasting t = lasting s ∨ lasting t = (lasting s).popped

/-- Everything an event can do to the lasting part: nothing; the head leaves the queue; a SUBMIT or an SCE_FIRE queues one
entry under the next sequence number (R147, R246); a CFG_WRITE writes the identity (R150). -/
inductive LastingStep (s : State) : Instr → Lasting → Prop where
  | same (i : Instr) : LastingStep s i (lasting s)
  | popped (i : Instr) : LastingStep s i (lasting s).popped
  | submitted (e : OutFrame) (txopt : TxOpt) (srcMode dstMode : AddrMode) (low : BitVec 10) (hseq : e.seq = s.dsn)
      (horigin : e.origin = .upstream) :
      LastingStep s (.submit e.handle e.tag txopt srcMode dstMode low)
        { lasting s with dsn := s.dsn + 1#8, txq := s.txq ++ [e] }
  | emitted (e : OutFrame) (hseq : e.seq = s.dsn) (horigin : e.origin = .internal) :
      LastingStep s .sceFire
        { lasting s with
          dsn := s.dsn + 1#8
          txq := if s.cfg.hsInsertFront = true then e :: (waitLeft s).txq else (waitLeft s).txq ++ [e] }
  | configured (reg : BitVec 4) (l : Lasting) (hcfg : l.cfg = s.cfg) (hdsn : l.dsn = s.dsn) (htxq : l.txq = s.txq) :
      LastingStep s (.cfgWrite reg) l

variable {s t : State}

theorem Lasts.lastingStep (h : Lasts s t) (i : Instr) : LastingStep s i (lasting t) := by
  rcases h with h | h <;> rw [h]
  · exact .same i
  · exact .popped i

theorem Lasts.of_eq {u : State} (h : Lasts s t) (heq : lasting u = lasting t) : Lasts s u := by
  unfold Lasts at h ⊢
  rwa [heq]

theorem Lasts.cfg_eq (h : Lasts s t) : t.cfg = s.cfg := by
  rcases h with h | h <;> exact congrArg Lasting.cfg h

theorem Lasts.dsn_eq (h : Lasts s t) : t.dsn = s.dsn := by
  rcases h with h | h <;> exact congrArg Lasting.dsn h

/-- The two lasting parts differ in their queues only. -/
theorem Lasts.override (h : Lasts s t) (dsn : SeqNo) (txq : List OutFrame) :
    ({ lasting s with dsn := dsn, txq := txq } : Lasting) = { lasting t with dsn := dsn, txq := txq } := by
  rcases h with h | h
  · rw [h]
  · rw [h]; rfl

/-! ### Shared procedures -/

section Procedures

variable (s : State)

@[simp] theorem lasting_emit (a : Action) : lasting (emit a s) = lasting s := rfl
@[simp] theorem lasting_trace (event : TraceEvent) : lasting (trace event s) = lasting s := rfl
@[simp] theorem lasting_iffClear : lasting (iffClear s) = lasting s := rfl
@[simp] theorem lasting_hswCancel : lasting (hswCancel s) = lasting s := rfl
@[simp] theorem lasting_sceCancel : lasting (sceCancel s) = lasting s := rfl
@[simp] theorem lasting_hsClear : lasting (hsClear s) = lasting s := rfl

@[simp] theorem lasting_arbCancel : lasting (arbCancel s) = lasting s := by
  obtain ⟨_, heq⟩ := arbCancel_writes s
  rw [heq]; rfl

@[simp] theorem lasting_hswArm : lasting (hswArm s) = lasting s := by
  obtain ⟨_, heq⟩ := hswArm_writes s
  rw [heq]; rfl

@[simp] theorem lasting_forceIdle : lasting (forceIdle s) = lasting s := by
  obtain ⟨_, heq⟩ := forceIdle_writes s
  rw [heq]; rfl

@[simp] theorem lasting_checkQueue : lasting (checkQueue s) = lasting s := by
  obtain ⟨_, _, _, _, heq⟩ := checkQueue_writes s
  rw [heq]; rfl

@[simp] theorem lasting_enterIdle : lasting (enterIdle s) = lasting s := by
  obtain ⟨_, _, _, _, heq⟩ := enterIdle_writes s
  rw [heq]; rfl

@[simp] theorem lasting_fatal (reason : FatalReason) (code : BitVec 3) : lasting (fatal reason code s) = lasting s := by
  rw [fatal_eq]; rfl

@[simp] theorem lasting_confirmHead (status : Status) : lasting (confirmHead status s) = lasting s := by
  obtain ⟨_, heq⟩ := confirmHead_writes s status
  rw [heq]; rfl

@[simp] theorem lasting_removeHead : lasting (removeHead s) = (lasting s).popped := by
  obtain ⟨_, _, heq⟩ := removeHead_writes s
  rw [heq]; rfl

/-- R212: the head is dropped when its retries are used up. -/
theorem lasting_prepareRetransmission :
    lasting (prepareRetransmission s) =
      if s.cfg.maxFrameRetries ≤ s.retryCnt then (lasting s).popped else lasting s := by
  rcases prepareRetransmission_cases s with ⟨hlt, heq⟩ | ⟨hlt, _, heq⟩ | ⟨hlt, _, heq⟩ <;> rw [heq]
  · rw [if_neg (Nat.not_le.2 hlt)]; rfl
  · rw [if_pos (Nat.not_lt.1 hlt)]; rfl
  · rw [if_pos (Nat.not_lt.1 hlt)]; rfl

/-- What leaving a wait does to the queue (R132, R212). -/
theorem lasting_abandonCurrent :
    lasting (abandonCurrent s) =
      if s.ms = .ackPending ∧ s.cfg.maxFrameRetries ≤ s.retryCnt then (lasting s).popped else lasting s := by
  by_cases hwait : isHandshakeWait s.ms = true
  · have hms : s.ms ≠ .ackPending := fun hms => by simp [hms, isHandshakeWait] at hwait
    rw [abandonCurrent_wait hwait]
    simp only [hms, false_and, if_false]
    rfl
  · cases hms : s.ms with
    | idle => simp [abandonCurrent_idle hms]
    | channelAccess => simp [abandonCurrent_channelAccess hms, lasting_arbCancel]
    | sending => simp [abandonCurrent_sending hms]
    | ackPending => simp [abandonCurrent_ackPending hms, lasting_prepareRetransmission]
    | cfePending | cfeAckPending | energyPending => simp [hms, isHandshakeWait] at hwait

/-- The statement's reading of R132 does the same. -/
theorem lasting_waitLeft :
    lasting (waitLeft s) =
      if s.ms = .ackPending ∧ s.cfg.maxFrameRetries ≤ s.retryCnt then (lasting s).popped else lasting s := by
  unfold waitLeft
  cases hms : s.ms with
  | ackPending =>
    simp only [true_and]
    cases hq : s.txq with
    | nil =>
      have hnil : (lasting s).popped = lasting s := by simp [Lasting.popped, lasting, hq]
      simp [hnil]
    | cons e rest =>
      have hpop : lasting (headReleased e rest s) = (lasting s).popped := by
        simp [Lasting.popped, lasting, headReleased, hq]
      by_cases hlt : s.retryCnt < s.cfg.maxFrameRetries
      · simp only [ackLost, if_pos hlt, if_neg (Nat.not_le.2 hlt)]
        rfl
      · simp only [ackLost, if_neg hlt, if_pos (Nat.not_lt.1 hlt)]
        exact hpop
  | idle | sending => simp
  | channelAccess | cfePending | cfeAckPending | energyPending => simp only [reduceCtorEq, false_and, if_false]; rfl

end Procedures

theorem lasts_of_ite {c : Prop} [Decidable c] (h : lasting t = if c then (lasting s).popped else lasting s) :
    Lasts s t := by
  unfold Lasts
  split at h
  · exact .inr h
  · exact .inl h

theorem lasts_abandonCurrent (s : State) : Lasts s (abandonCurrent s) := lasts_of_ite (lasting_abandonCurrent s)

theorem lasts_retryOrGiveUp (s : State) : Lasts s (retryOrGiveUp s) :=
  (lasts_of_ite (lasting_prepareRetransmission s)).of_eq (lasting_enterIdle _)

/-! ### The confirmations of the Arbiter and of Radio Control -/

theorem lasts_channelAccessFailed (s : State) : Lasts s (channelAccessFailed s) := by
  refine .inr ?_
  simp only [channelAccessFailed, lasting_enterIdle, lasting_removeHead]
  exact congrArg Lasting.popped (lasting_confirmHead { s with arbRun := false } _)

theorem lasts_ccaConfirmed (s : State) (code : BitVec 3) : Lasts s (ccaConfirmed code s) := by
  unfold ccaConfirmed
  split
  · exact .inl rfl
  · split
    · split
      · exact .inl rfl
      · exact lasts_channelAccessFailed s
    · exact .inl rfl

theorem lasting_trxConfirmed (s : State) (code : BitVec 3) : lasting (trxConfirmed code s) = lasting s := by
  unfold trxConfirmed issueTransmit
  split
  · rfl
  · split
    · split
      · split <;> rfl
      · rfl
    · exact lasting_fatal s _ _

/-- The queue part of R168 and R169. -/
theorem lasts_release (s : State) :
    Lasts s (if s.iff.inQueue then s |> confirmHead .success |> removeHead else s) := by
  split
  · exact .inr (by rw [lasting_removeHead, lasting_confirmHead])
  · exact .inl rfl

theorem lasts_awaitHandshake (s : State) (next : MacState) : Lasts s (awaitHandshake next s) := by
  refine (lasts_release s).of_eq ?_
  unfold awaitHandshake
  split
  · exact lasting_hswArm _
  · exact lasting_hswArm _

theorem lasts_transmissionDone (s : State) : Lasts s (transmissionDone s) := by
  refine (lasts_release s).of_eq ?_
  unfold transmissionDone
  dsimp only
  rw [lasting_enterIdle]
  split <;> split <;> rfl

theorem lasts_transmitted (s : State) : Lasts s (transmitted s) := by
  unfold transmitted
  cases s.iff.tag with
  | data =>
    dsimp only
    split
    · exact .inl rfl
    · exact lasts_transmissionDone (trace _ s)
  | rfe | cfe | cfeAck => exact lasts_awaitHandshake (trace _ s) _
  | energy | ack | unused | untagged => exact lasts_transmissionDone (trace _ s)

theorem lasts_txConfirmed (s : State) (code : BitVec 3) : Lasts s (txConfirmed code s) := by
  unfold txConfirmed
  split
  · exact lasts_transmitted s
  · exact .inl (lasting_fatal s _ _)

/-! ### RX_FRAME -/

theorem lasts_ackReceived (s : State) (head : Header) : Lasts s (ackReceived head s) := by
  unfold ackReceived
  split
  · split
    · refine .inr ?_
      simp only [ackMatched, lasting_enterIdle]
      exact (lasting_removeHead _).trans (congrArg Lasting.popped (lasting_confirmHead (ackwCancel s) _))
    · exact lasts_retryOrGiveUp (trace _ s)
  · exact .inl rfl

theorem lasts_donorRfe (s : State) (head : Header) (m : Metadata) : Lasts s (donorRfe head m s) := by
  unfold donorRfe
  split
  · exact (lasts_abandonCurrent (sceCancel s)).of_eq (lasting_forceIdle _)
  · exact .inl rfl

theorem lasting_sensorFreeze (s : State) (head : Header) (m : Metadata) :
    lasting (sensorFreeze head m s) = lasting s :=
  (lasting_hswArm _).trans (lasting_arbCancel (sceCancel s))

theorem lasts_hsReact (s : State) (head : Header) (m : Metadata) : Lasts s (hsReact head m s) := by
  unfold hsReact
  cases m.tag with
  | rfe =>
    cases s.cfg.role with
    | energyDonor => exact lasts_donorRfe s head m
    | sensor =>
      dsimp only [sensorRfe]
      cases s.ms with
      | idle | channelAccess | energyPending => exact .inl (lasting_sensorFreeze s head m)
      | sending | ackPending | cfePending | cfeAckPending => exact .inl rfl
  | cfe => cases s.cfg.role <;> exact .inl rfl
  | cfeAck =>
    dsimp only
    split <;> exact .inl rfl
  | energy | data | ack | unused | untagged => exact .inl rfl

theorem lasts_reactToFrame (s : State) (head : Header) (m : Metadata) : Lasts s (reactToFrame head m s) := by
  unfold reactToFrame
  split
  · obtain ⟨_, heq⟩ := receivedWhileSending_writes s head m
    rw [heq]
    exact .inl rfl
  · split
    · split
      · exact (lasts_abandonCurrent (trace _ s)).of_eq rfl
      · exact (lasts_abandonCurrent s).of_eq rfl
    · split
      · exact lasts_hsReact s head m
      · exact .inl rfl

theorem lasts_dataAccepted (s : State) (head : Header) (m : Metadata) (lqi : Lqi) (f : Frame) :
    Lasts s (dataAccepted head m lqi f s) := by
  obtain ⟨_, heq⟩ := indicate_writes (reactToFrame head m s) head m lqi f
  simp only [dataAccepted, heq]
  exact (lasts_reactToFrame s head m).of_eq rfl

theorem lasts_dispatchFrame (s : State) (head : Header) (m : Metadata) (lqi : Lqi) (f : Frame) :
    Lasts s (dispatchFrame head m lqi f s) := by
  unfold dispatchFrame
  split
  · exact lasts_ackReceived s head
  · exact .inl rfl
  · exact lasts_dataAccepted s head m lqi f
  · exact (lasts_dataAccepted s head m lqi f).of_eq rfl
  · exact .inl rfl

theorem lasts_frameReceived (s : State) (inj : Bool) (lqi : Lqi) (f : Frame) :
    Lasts s (frameReceived inj lqi f s) := by
  obtain ⟨_, heq⟩ := sniffed_writes s f
  unfold frameReceived
  split
  · split
    · exact .inl rfl
    · split <;> rw [heq]
      · exact .inl rfl
      · exact lasts_dispatchFrame { s with out := _ } _ _ _ _
  · exact .inl rfl

/-! ### The other events -/

theorem lasting_energySampled (s : State) (slot : BitVec 3) : lasting (energySampled slot s) = lasting s := by
  unfold energySampled
  split
  · unfold sampleTotal
    dsimp only
    split
    · simp
    · rfl
  · rfl
  · unfold sampleSecond
    dsimp only
    split
    · split <;> rfl
    · rfl
  · rfl
  · rfl

theorem lastingStep_submitted (s : State) (handle : Handle) (tag : Tag) (txopt : TxOpt) (srcMode dstMode : AddrMode)
    (low : BitVec 10) :
    LastingStep s (.submit handle tag txopt srcMode dstMode low)
      (lasting (submitted handle tag txopt srcMode dstMode low s)) := by
  unfold submitted
  split
  · exact .same _
  · rw [enqueueSubmission, lasting_checkQueue]
    exact .submitted (s := s) { frame := _, handle, tag, ackreq := _, seq := _, origin := _ } txopt srcMode dstMode low
      rfl rfl

/-- R246, in the state `u` that leaving the wait gives. -/
theorem lastingStep_emitHs {u : State} (hleft : lasting u = lasting (waitLeft s)) (action : SceAction) :
    LastingStep s .sceFire (lasting (emitHs action u)) := by
  have hlasts : Lasts s u := (lasts_of_ite (lasting_waitLeft s)).of_eq hleft
  rcases emitHs_cases action u with ⟨_, heq⟩ | ⟨_, _, heq⟩ <;> rw [heq]
  · exact hlasts.lastingStep _
  · have hstep := LastingStep.emitted (s := s) (handshakeEntry action u) hlasts.dsn_eq rfl
    have htxq : u.txq = (waitLeft s).txq := congrArg Lasting.txq hleft
    rw [← htxq, ← hlasts.cfg_eq, ← hlasts.dsn_eq, hlasts.override] at hstep
    exact hstep

/-- R245: the current wait is left before anything is queued. -/
theorem lastingStep_sceFired (s : State) : LastingStep s .sceFire (lasting (sceFired s)) := by
  have hleft : lasting (forceIdle (abandonCurrent (sceCancel s))) = lasting (waitLeft s) := by
    rw [lasting_forceIdle, lasting_abandonCurrent, lasting_waitLeft]
    rfl
  have hstep := lastingStep_emitHs hleft s.sce.action
  rwa [← lasting_checkQueue] at hstep

theorem lastingStep_configured (s : State) (reg : BitVec 4) :
    LastingStep s (.cfgWrite reg) (lasting (configured reg s)) := by
  refine .configured reg _ ?_ ?_ ?_ <;> (unfold configured; split <;> rfl)

theorem lastingStep_effect (i : Instr) (s : State) : LastingStep s i (lasting (effect i s)) := by
  cases i with
  | submit handle tag txopt srcMode dstMode low =>
    dsimp only [effect]
    split
    · exact .same _
    · exact lastingStep_submitted ..
  | ccaConf code => exact (lasts_ccaConfirmed s code).lastingStep _
  | trxConf code => exact Lasts.lastingStep (.inl (lasting_trxConfirmed s code)) _
  | txConf code => exact (lasts_txConfirmed s code).lastingStep _
  | rxFrame inj lqi => exact (lasts_frameReceived s inj lqi _).lastingStep _
  | energySample slot => exact Lasts.lastingStep (.inl (lasting_energySampled s slot)) _
  | ackwaitFire =>
    dsimp only [effect]
    split
    · exact (lasts_retryOrGiveUp s).lastingStep _
    · exact .same _
  | sceFire =>
    dsimp only [effect]
    split
    · split
      · exact .same _
      · exact lastingStep_sceFired s
    · exact .same _
  | hswaitFire =>
    refine Lasts.lastingStep (.inl ?_) _
    dsimp only [effect]
    split
    · simp [hsTimedOut]
    · rfl
  | cfgWrite reg => exact lastingStep_configured s reg

/-! ### The statements on the lasting part -/

theorem lastingStep_cfg {i : Instr} {l : Lasting} (h : LastingStep s i l) : l.cfg = s.cfg := by
  cases h with
  | same | popped | submitted | emitted => rfl
  | configured reg l hcfg => exact hcfg

/-- Settles O15: `LastingStep` has no case that changes the parameters. -/
theorem parametersAreNeverWritten : Obligations.ParametersAreNeverWritten := by
  refine ⟨rfl, rfl, fun s t hstep => ?_⟩
  obtain ⟨_, rfl | ⟨ev, rest, rfl | ⟨i, rfl⟩⟩⟩ := step_eq_next hstep
  · rfl
  · rfl
  · exact lastingStep_cfg (lastingStep_effect i (present ev rest s))

/-- Settles O16: of the cases of `LastingStep` only that of CFG_WRITE changes the identity. -/
theorem identityIsWrittenOnlyByCfgWrite : Obligations.IdentityIsWrittenOnlyByCfgWrite := by
  intro i s t hexec hi
  obtain ⟨_, rfl⟩ := exec_eq_next.1 hexec
  have hstep := lastingStep_effect i s
  generalize hl : lasting (effect i s) = l at hstep
  cases hstep with
  | same | popped | submitted | emitted =>
    exact ⟨congrArg Lasting.shortAddr hl, congrArg Lasting.panId hl, congrArg Lasting.extAddrLo hl,
      congrArg Lasting.extAddrHi hl, congrArg Lasting.promisc hl⟩
  | configured reg => exact absurd rfl (hi reg)

/-- Settles O18: each case of `LastingStep` says what became of the counter and the queue. -/
theorem sequenceNumberIsTakenByOneQueuedFrame : Obligations.SequenceNumberIsTakenByOneQueuedFrame := by
  intro i s t hexec
  obtain ⟨_, rfl⟩ := exec_eq_next.1 hexec
  have hstep := lastingStep_effect i s
  generalize hl : lasting (effect i s) = l at hstep
  have hdsn : (effect i s).dsn = l.dsn := congrArg Lasting.dsn hl
  have htxq : (effect i s).txq = l.txq := congrArg Lasting.txq hl
  rw [hdsn, htxq]
  cases hstep with
  | same => exact .inl ⟨rfl, .inl rfl⟩
  | popped => exact .inl ⟨rfl, .inr rfl⟩
  | submitted e txopt srcMode dstMode low hseq horigin =>
    exact .inr ⟨rfl, e, hseq, .inl ⟨_, _, txopt, srcMode, dstMode, low, rfl, horigin, rfl, rfl, rfl⟩⟩
  | emitted e hseq horigin => exact .inr ⟨rfl, e, hseq, .inr ⟨rfl, horigin, rfl⟩⟩
  | configured reg _ _ hd hq => exact .inl ⟨hd, .inl hq⟩

end Sys2Proof.Proofs.LastingPart

/-! PROOFS. `CCA_CNT` is never read (O14): each procedure keeps two states alike that differ in it. -/

namespace Sys2Proof.Proofs.Count

open Sys2Proof.Machine Sys2Proof.Safety Sys2Proof.Proofs.Event

/-- The states are equal but for `CCA_CNT` and the outputs, and these differ in the counts of arbiter-start traces only. -/
def Alike (s t : State) : Prop :=
  ∃ n out, t = { s with ccaCnt := n, out := out } ∧ out.map withoutCcaCount = s.out.map withoutCcaCount

variable {s t : State}

theorem Alike.ite {c : Prop} [Decidable c] {u v : State} (hthen : Alike s t) (helse : Alike u v) :
    Alike (if c then s else u) (if c then t else v) := by
  split
  · exact hthen
  · exact helse

theorem Alike.ms (h : Alike s t) : t.ms = s.ms := by
  obtain ⟨_, _, rfl, _⟩ := h
  rfl

/-! ### Operations without a condition -/

theorem Alike.emit (h : Alike s t) (a : Action) : Alike (emit a s) (emit a t) := by
  obtain ⟨n, out, rfl, hout⟩ := h
  exact ⟨n, _, rfl, by simp [hout]⟩

theorem Alike.trace (h : Alike s t) (event : TraceEvent) : Alike (trace event s) (trace event t) := h.emit _

theorem Alike.setMs (h : Alike s t) (ms : MacState) : Alike { s with ms := ms } { t with ms := ms } := by
  obtain ⟨n, out, rfl, hout⟩ := h
  exact ⟨n, out, rfl, hout⟩

theorem Alike.iffClear (h : Alike s t) : Alike (iffClear s) (iffClear t) := by
  obtain ⟨n, out, rfl, hout⟩ := h
  exact ⟨n, out, rfl, hout⟩

theorem Alike.ackwCancel (h : Alike s t) : Alike (ackwCancel s) (ackwCancel t) := by
  obtain ⟨n, out, rfl, hout⟩ := h
  exact ⟨n, out, rfl, hout⟩

theorem Alike.hsClear (h : Alike s t) : Alike (hsClear s) (hsClear t) := by
  obtain ⟨n, out, rfl, hout⟩ := h
  exact ⟨n, out, rfl, hout⟩

theorem Alike.sceCancel (h : Alike s t) : Alike (sceCancel s) (sceCancel t) := by
  obtain ⟨n, out, rfl, hout⟩ := h
  exact ⟨n, out, rfl, hout⟩

theorem Alike.sceSchedule (h : Alike s t) (action : SceAction) (delay : Delay) :
    Alike (sceSchedule action delay s) (sceSchedule action delay t) := by
  obtain ⟨n, out, rfl, hout⟩ := h
  exact ⟨n, out, rfl, hout⟩

theorem Alike.hswCancel (h : Alike s t) : Alike (hswCancel s) (hswCancel t) := by
  obtain ⟨n, out, rfl, hout⟩ := h
  exact ⟨n, out, rfl, hout⟩

theorem Alike.popFront (h : Alike s t) : Alike (popFront s) (popFront t) := by
  obtain ⟨n, out, rfl, hout⟩ := h
  exact ⟨n, out, rfl, hout⟩

theorem Alike.recordRequester (h : Alike s t) (head : Header) (m : Metadata) :
    Alike (recordRequester head m s) (recordRequester head m t) := by
  obtain ⟨n, out, rfl, hout⟩ := h
  exact ⟨n, out, rfl, hout⟩

theorem Alike.enterSending (h : Alike s t) (e : OutFrame) (inQueue : Bool) :
    Alike (enterSending e inQueue s) (enterSending e inQueue t) := by
  obtain ⟨n, out, rfl, hout⟩ := h
  exact ⟨n, _, rfl, by simp [enterSending, hout]⟩

/-! ### The common procedures: no condition reads the count -/

theorem Alike.arbCancel (h : Alike s t) : Alike (arbCancel s) (arbCancel t) := by
  obtain ⟨n, out, rfl, hout⟩ := id h
  exact .ite ⟨n, _, rfl, by simp [hout]⟩ h

theorem Alike.hswArm (h : Alike s t) : Alike (hswArm s) (hswArm t) := by
  obtain ⟨n, out, rfl, hout⟩ := id h
  exact .ite ⟨n, out, rfl, hout⟩ h

/-- R121: the count is raised, and shows in the trace only. -/
theorem Alike.checkQueue (h : Alike s t) : Alike (checkQueue s) (checkQueue t) := by
  obtain ⟨n, out, rfl, hout⟩ := id h
  exact .ite ⟨_, _, rfl, by simp [hout, withoutCcaCount]⟩ h

theorem Alike.enterIdle (h : Alike s t) : Alike (enterIdle s) (enterIdle t) := ((h.setMs .idle).emit _).checkQueue

theorem Alike.forceIdle (h : Alike s t) : Alike (forceIdle s) (forceIdle t) := by
  obtain ⟨n, out, rfl, hout⟩ := id h
  exact .ite h ((h.setMs .idle).emit _)

theorem Alike.confirmHead (h : Alike s t) (status : Status) : Alike (confirmHead status s) (confirmHead status t) := by
  obtain ⟨n, out, rfl, hout⟩ := id h
  exact .ite (h.emit _) h

/-- R123: the count is cleared in both states. -/
theorem Alike.removeHead (h : Alike s t) : Alike (removeHead s) (removeHead t) := by
  obtain ⟨n, out, rfl, hout⟩ := id h
  exact .ite ⟨_, out, rfl, hout⟩ h.popFront

theorem Alike.prepareRetransmission (h : Alike s t) : Alike (prepareRetransmission s) (prepareRetransmission t) := by
  obtain ⟨n, out, rfl, hout⟩ := id h
  refine Alike.iffClear (.ite ?_ ?_)
  · exact ⟨n, _, rfl, by simp [hout]⟩
  · exact ((h.ackwCancel.confirmHead _).trace _).removeHead

theorem Alike.abandonCurrent (h : Alike s t) : Alike (abandonCurrent s) (abandonCurrent t) := by
  by_cases hwait : isHandshakeWait s.ms = true
  · obtain ⟨n, out, rfl, hout⟩ := h
    rw [abandonCurrent_wait hwait, abandonCurrent_wait (by exact hwait)]
    exact ⟨n, _, rfl, by simp [hout]⟩
  · cases hms : s.ms with
    | idle => rwa [abandonCurrent_idle hms, abandonCurrent_idle (h.ms.trans hms)]
    | channelAccess =>
      rw [abandonCurrent_channelAccess hms, abandonCurrent_channelAccess (h.ms.trans hms)]
      exact h.arbCancel
    | sending => rwa [abandonCurrent_sending hms, abandonCurrent_sending (h.ms.trans hms)]
    | ackPending =>
      rw [abandonCurrent_ackPending hms, abandonCurrent_ackPending (h.ms.trans hms)]
      exact h.prepareRetransmission
    | cfePending | cfeAckPending | energyPending => simp [hms, isHandshakeWait] at hwait

theorem Alike.fatal (h : Alike s t) (reason : FatalReason) (code : BitVec 3) :
    Alike (fatal reason code s) (fatal reason code t) := by
  obtain ⟨n, out, rfl, hout⟩ := h
  rw [fatal_eq, fatal_eq]
  exact ⟨n, _, rfl, by simp [hout]⟩

theorem takeAcceptable_congr (h : ∀ waiting word, waitingSource waiting t word = waitingSource waiting s word)
    (waiting : List Source) (q : List PortEvent) : takeAcceptable waiting t q = takeAcceptable waiting s q := by
  induction q generalizing waiting with
  | nil => rfl
  | cons ev rest ih => simp only [takeAcceptable, h, ih]

/-- What has to wait at the port depends on neither the count nor the outputs. -/
theorem Alike.hold (h : Alike s t) (i : Instr) : Alike (hold i s) (hold i t) := by
  obtain ⟨n, out, rfl, hout⟩ := h
  have htake : takeAcceptable [sourceOf i] { s with ccaCnt := n, out := out } s.pending =
      takeAcceptable [sourceOf i] s s.pending := takeAcceptable_congr (by intros; rfl) _ _
  refine ⟨n, out, ?_, hout⟩
  simp only [Machine.hold, htake]

/-! ### The confirmations of the Arbiter and of Radio Control -/

theorem Alike.arbiterOff (h : Alike s t) : Alike { s with arbRun := false } { t with arbRun := false } := by
  obtain ⟨n, out, rfl, hout⟩ := h
  exact ⟨n, out, rfl, hout⟩

theorem Alike.channelIdle (h : Alike s t) : Alike (channelIdle s) (channelIdle t) := by
  obtain ⟨n, out, rfl, hout⟩ := id h
  exact h.arbiterOff.enterSending (queueHead s) true

theorem Alike.channelAccessFailed (h : Alike s t) : Alike (channelAccessFailed s) (channelAccessFailed t) := by
  obtain ⟨n, out, rfl, hout⟩ := id h
  exact ((h.arbiterOff.confirmHead _).trace _).removeHead.enterIdle

theorem Alike.ccaConfirmed (h : Alike s t) (code : BitVec 3) : Alike (ccaConfirmed code s) (ccaConfirmed code t) := by
  obtain ⟨n, out, rfl, hout⟩ := id h
  unfold Machine.ccaConfirmed
  cases CcaResult.ofCode code with
  | none => exact h.trace _
  | some result =>
    cases result with
    | channelIdle => exact .ite h.channelIdle (h.trace _)
    | channelAccessFailure => exact .ite h.channelAccessFailed (h.trace _)

theorem Alike.issueTransmit (h : Alike s t) : Alike (issueTransmit s) (issueTransmit t) := by
  obtain ⟨n, out, rfl, hout⟩ := id h
  exact .ite h ⟨n, _, rfl, by simp [hout]⟩

theorem Alike.trxConfirmed (h : Alike s t) (code : BitVec 3) : Alike (trxConfirmed code s) (trxConfirmed code t) := by
  obtain ⟨n, out, rfl, hout⟩ := id h
  unfold Machine.trxConfirmed
  cases TrxConfirmation.ofCode code with
  | none => exact h.trace _
  | some conf => exact .ite (.ite h.issueTransmit h) (h.fatal _ _)

theorem Alike.awaitAck (h : Alike s t) : Alike (awaitAck s) (awaitAck t) := by
  obtain ⟨n, out, rfl, hout⟩ := h
  exact ⟨n, _, rfl, by simp [Machine.awaitAck, hout]⟩

theorem Alike.leaveQueue (h : Alike s t) :
    Alike { s with iff := { s.iff with inQueue := false } } { t with iff := { t.iff with inQueue := false } } := by
  obtain ⟨n, out, rfl, hout⟩ := h
  exact ⟨n, out, rfl, hout⟩

theorem Alike.awaitHandshake (h : Alike s t) (next : MacState) :
    Alike (awaitHandshake next s) (awaitHandshake next t) := by
  obtain ⟨n, out, rfl, hout⟩ := id h
  exact ((Alike.ite (h.confirmHead _).removeHead.leaveQueue h).setMs next).hswArm.emit _

theorem Alike.transmissionDone (h : Alike s t) : Alike (transmissionDone s) (transmissionDone t) := by
  obtain ⟨n, out, rfl, hout⟩ := id h
  have hrel := Alike.ite (c := s.iff.inQueue = true) (h.confirmHead .success).removeHead h
  exact (Alike.ite hrel.hsClear hrel).iffClear.enterIdle

theorem Alike.transmitted (h : Alike s t) : Alike (transmitted s) (transmitted t) := by
  obtain ⟨n, out, rfl, hout⟩ := id h
  unfold Machine.transmitted
  dsimp only
  cases s.iff.tag with
  | data => exact .ite (h.trace _).awaitAck (h.trace _).transmissionDone
  | rfe | cfe | cfeAck => exact (h.trace _).awaitHandshake _
  | energy | ack | unused | untagged => exact (h.trace _).transmissionDone

theorem Alike.txConfirmed (h : Alike s t) (code : BitVec 3) : Alike (txConfirmed code s) (txConfirmed code t) := by
  obtain ⟨n, out, rfl, hout⟩ := id h
  exact .ite h.transmitted (h.fatal _ _)

/-! ### RX_FRAME -/

theorem Alike.retryOrGiveUp (h : Alike s t) : Alike (retryOrGiveUp s) (retryOrGiveUp t) :=
  h.prepareRetransmission.enterIdle

theorem Alike.ackMatched (h : Alike s t) (head : Header) : Alike (ackMatched head s) (ackMatched head t) :=
  ((h.ackwCancel.confirmHead _).trace _).removeHead.iffClear.enterIdle

theorem Alike.ackReceived (h : Alike s t) (head : Header) : Alike (ackReceived head s) (ackReceived head t) := by
  obtain ⟨n, out, rfl, hout⟩ := id h
  exact .ite (.ite (h.ackMatched head) (h.trace _).retryOrGiveUp) (h.trace _)

theorem Alike.generateAck (h : Alike s t) (seq : SeqNo) : Alike (generateAck seq s) (generateAck seq t) :=
  h.abandonCurrent.sceCancel.enterSending _ _

theorem Alike.donorRfe (h : Alike s t) (head : Header) (m : Metadata) :
    Alike (donorRfe head m s) (donorRfe head m t) := by
  obtain ⟨n, out, rfl, hout⟩ := id h
  have hidle := h.sceCancel.abandonCurrent.forceIdle
  exact .ite (((hidle.recordRequester head m).sceSchedule _ _).trace _) (h.trace _)

theorem Alike.sensorFreeze (h : Alike s t) (head : Header) (m : Metadata) :
    Alike (sensorFreeze head m s) (sensorFreeze head m t) := by
  have hfrozen := h.sceCancel.arbCancel.hswCancel.setMs .energyPending
  exact (hfrozen.recordRequester head m).hswArm.trace _

theorem Alike.sensorRfe (h : Alike s t) (head : Header) (m : Metadata) :
    Alike (sensorRfe head m s) (sensorRfe head m t) := by
  unfold Machine.sensorRfe
  rw [h.ms]
  cases s.ms with
  | idle | channelAccess | energyPending => exact h.sensorFreeze head m
  | sending | ackPending | cfePending | cfeAckPending => exact h.trace _

theorem Alike.hsReact (h : Alike s t) (head : Header) (m : Metadata) : Alike (hsReact head m s) (hsReact head m t) := by
  obtain ⟨n, out, rfl, hout⟩ := id h
  unfold Machine.hsReact
  cases m.tag with
  | rfe =>
    dsimp only
    cases s.cfg.role with
    | energyDonor => exact h.donorRfe head m
    | sensor => exact h.sensorRfe head m
  | cfe =>
    dsimp only
    cases s.cfg.role with
    | energyDonor => exact h.trace _
    | sensor => exact ⟨n, _, rfl, by simp [recordAnnounced, hout]⟩
  | cfeAck => exact .ite ⟨n, _, rfl, by simp [honourCfeAck, hout]⟩ (h.trace _)
  | energy => exact h.hsClear.trace _
  | data | ack | unused | untagged => exact h.trace _

theorem Alike.receivedWhileSending (h : Alike s t) (head : Header) (m : Metadata) :
    Alike (receivedWhileSending head m s) (receivedWhileSending head m t) := by
  obtain ⟨n, out, rfl, hout⟩ := id h
  have howed := Alike.ite (c := ackOwed head s = true) (h.trace (.ackSuppressed head.seq)) h
  exact .ite (howed.trace _) howed

theorem Alike.reactToFrame (h : Alike s t) (head : Header) (m : Metadata) :
    Alike (reactToFrame head m s) (reactToFrame head m t) := by
  obtain ⟨n, out, rfl, hout⟩ := id h
  exact .ite (h.receivedWhileSending head m)
    (.ite ((Alike.ite (h.trace _) h).generateAck _) (.ite (h.hsReact head m) h))

theorem Alike.indicate (h : Alike s t) (head : Header) (m : Metadata) (lqi : Lqi) (f : Frame) :
    Alike (indicate head m lqi f s) (indicate head m lqi f t) :=
  .ite (h.emit _) h

theorem Alike.dispatchFrame (h : Alike s t) (head : Header) (m : Metadata) (lqi : Lqi) (f : Frame) :
    Alike (dispatchFrame head m lqi f s) (dispatchFrame head m lqi f t) := by
  unfold Machine.dispatchFrame
  cases head.ftype with
  | ack => exact h.ackReceived head
  | beacon => exact h.trace _
  | data => exact (h.reactToFrame head m).indicate head m lqi f
  | command => exact ((h.reactToFrame head m).indicate head m lqi f).trace _
  | reserved => exact h

theorem Alike.sniffed (h : Alike s t) (f : Frame) : Alike (sniffed f s) (sniffed f t) := by
  obtain ⟨n, out, rfl, hout⟩ := id h
  exact .ite ((h.emit _).emit _) (h.emit _)

theorem Alike.frameReceived (h : Alike s t) (inj : Bool) (lqi : Lqi) (f : Frame) :
    Alike (frameReceived inj lqi f s) (frameReceived inj lqi f t) := by
  obtain ⟨n, out, rfl, hout⟩ := id h
  have hverdict : filterVerdict f.header { s with ccaCnt := n, out := out } = filterVerdict f.header s := rfl
  unfold Machine.frameReceived
  rw [hverdict]
  cases filterVerdict f.header s with
  | none => exact .ite (.ite (h.trace _) ((h.sniffed f).dispatchFrame _ _ _ _)) (h.trace _)
  | some step => exact .ite (.ite (h.trace _) ((h.sniffed f).trace _)) (h.trace _)

/-! ### The other events -/

theorem Alike.sampleTotal (h : Alike s t) : Alike (sampleTotal s) (sampleTotal t) := by
  obtain ⟨n, out, rfl, hout⟩ := id h
  have htraced := h.trace (.hsSample 0#3 s.mailbox.energy)
  exact .ite (((htraced.emit _).trace _).hswCancel.sceCancel.hsClear.iffClear.enterIdle) htraced

theorem Alike.sampleSecond (h : Alike s t) : Alike (sampleSecond s) (sampleSecond t) := by
  obtain ⟨n, out, rfl, hout⟩ := id h
  refine .ite (.ite ?_ ?_) ?_ <;> exact ⟨n, _, rfl, by simp [hout]⟩

theorem Alike.energySampled (h : Alike s t) (slot : BitVec 3) : Alike (energySampled slot s) (energySampled slot t) := by
  unfold Machine.energySampled
  split
  · exact h.sampleTotal
  · obtain ⟨n, out, rfl, hout⟩ := h
    exact ⟨n, _, rfl, by simp [sampleFirst, hout]⟩
  · exact h.sampleSecond
  · obtain ⟨n, out, rfl, hout⟩ := id h
    exact h.trace _
  · exact h.trace _

theorem Alike.emitHs (h : Alike s t) (action : SceAction) : Alike (emitHs action s) (emitHs action t) := by
  obtain ⟨n, out, rfl, hout⟩ := id h
  refine .ite (h.trace _) (.ite (h.trace _) (Alike.trace (.ite ?_ ?_) _)) <;> exact ⟨n, out, rfl, hout⟩

theorem Alike.sceFired (h : Alike s t) : Alike (sceFired s) (sceFired t) := by
  obtain ⟨n, out, rfl, hout⟩ := id h
  exact (h.sceCancel.abandonCurrent.forceIdle.emitHs s.sce.action).checkQueue

theorem Alike.hsTimedOut (h : Alike s t) : Alike (hsTimedOut s) (hsTimedOut t) :=
  (h.hswCancel.trace _).sceCancel.hsClear.iffClear.enterIdle

theorem Alike.enqueueSubmission (h : Alike s t) (handle : Handle) (tag : Tag) (p : SubmitParams) :
    Alike (enqueueSubmission handle tag p s) (enqueueSubmission handle tag p t) := by
  refine Alike.checkQueue (Alike.trace ?_ _)
  obtain ⟨n, out, rfl, hout⟩ := h
  exact ⟨n, out, rfl, hout⟩

theorem Alike.submitted (h : Alike s t) (handle : Handle) (tag : Tag) (txopt : TxOpt) (srcMode dstMode : AddrMode)
    (low : BitVec 10) :
    Alike (submitted handle tag txopt srcMode dstMode low s) (submitted handle tag txopt srcMode dstMode low t) := by
  obtain ⟨n, out, rfl, hout⟩ := id h
  have hverdict : submitVerdict tag txopt srcMode dstMode low { s with ccaCnt := n, out := out } =
      submitVerdict tag txopt srcMode dstMode low s := rfl
  unfold Machine.submitted
  rw [hverdict]
  cases submitVerdict tag txopt srcMode dstMode low s with
  | none => exact h.enqueueSubmission _ _ _
  | some status => exact (h.emit _).trace _

theorem Alike.configured (h : Alike s t) (reg : BitVec 4) : Alike (configured reg s) (configured reg t) := by
  obtain ⟨n, out, rfl, hout⟩ := h
  unfold Machine.configured
  split <;> exact ⟨n, _, rfl, by simp [badEvent, hout]⟩

/-- No event reads the count or the outputs. -/
theorem Alike.effect (h : Alike s t) (i : Instr) : Alike (effect i s) (effect i t) := by
  obtain ⟨n, out, rfl, hout⟩ := id h
  cases i with
  | submit handle tag txopt srcMode dstMode low => exact .ite (h.hold _) (h.submitted ..)
  | ccaConf code => exact h.ccaConfirmed code
  | trxConf code => exact h.trxConfirmed code
  | txConf code => exact h.txConfirmed code
  | rxFrame inj lqi => exact h.frameReceived inj lqi _
  | energySample slot => exact h.energySampled slot
  | ackwaitFire => exact .ite h.retryOrGiveUp (h.trace _)
  | sceFire => exact .ite (.ite (h.hold _) h.sceFired) (h.trace _)
  | hswaitFire => exact .ite h.hsTimedOut (h.trace _)
  | cfgWrite reg => exact h.configured reg

/-- Settles O14: every event keeps two states alike that differ in `CCA_CNT`. -/
theorem channelAccessCountIsOnlyTraced : Obligations.ChannelAccessCountIsOnlyTraced := by
  intro i s t u n ht hu
  obtain ⟨_, rfl⟩ := exec_eq_next.1 ht
  obtain ⟨_, rfl⟩ := exec_eq_next.1 hu
  have hstart : Alike { s with out := [] } { s with out := [], ccaCnt := n } := ⟨n, [], rfl, rfl⟩
  obtain ⟨_, _, heq, hout⟩ := hstart.effect i
  rw [heq]
  exact ⟨rfl, hout⟩

end Sys2Proof.Proofs.Count

/-! PROOFS. The cancellations (O22) and the reset values (O10). -/

namespace Sys2Proof.Proofs.Registers

open Sys2Proof.Machine

/-! ### Cancellation (R43) -/

variable {s : State}

theorem ackwCancel_eq_self (h : s.ackw.armed = false) : ackwCancel s = s := by
  unfold ackwCancel
  rw [← h]

theorem sceCancel_eq_self (h : s.sce.pending = false) : sceCancel s = s := by
  unfold sceCancel
  rw [← h]

theorem hswCancel_eq_self (h : s.hsw.armed = false) : hswCancel s = s := by
  unfold hswCancel
  rw [← h]

theorem arbCancel_eq_self (h : s.arbRun = false) : arbCancel s = s := by
  simp [arbCancel, h]

theorem arbCancel_arbRun (s : State) : (arbCancel s).arbRun = false := by
  rcases arbCancel_cases s with ⟨_, heq⟩ | ⟨hoff, heq⟩ <;> rw [heq]
  exact hoff

/-- Settles O22: what a cancellation does to a cleared bit makes the second one the identity. -/
theorem cancellationIsIdempotent : Obligations.CancellationIsIdempotent := fun s =>
  ⟨rfl, rfl, rfl, arbCancel_arbRun s, ackwCancel_eq_self rfl, sceCancel_eq_self rfl, hswCancel_eq_self rfl,
    arbCancel_eq_self (arbCancel_arbRun s), ackwCancel_eq_self, sceCancel_eq_self, hswCancel_eq_self,
    arbCancel_eq_self⟩

/-! ### Reset (R67, R300) -/

/-- R37, R189: the two halves of the extended address are the whole. -/
theorem extAddr_halves (a : Addr) : a.extractLsb' 32 32 ++ a.extractLsb' 0 32 = a := by
  rw [BitVec.extractLsb'_append_extractLsb'_eq_extractLsb' (by rfl)]
  simp

/-- R8's bound on the parameters of the reset state. -/
theorem installed_group2Delay : Config.installed.group2Delay ≠ 0#32 := by
  unfold Config.installed
  dsimp only
  split
  · decide
  · assumption

/-- Settles O10: each register is read off `State.resetWith`, the extended address from its two halves. -/
theorem resetLeavesTheValuesOfTheSpec : Obligations.ResetLeavesTheValuesOfTheSpec := by
  refine ⟨fun c => ?_, Config.installed, rfl, installed_group2Delay⟩
  refine ⟨rfl, rfl, rfl, rfl, rfl, rfl, rfl, rfl, rfl, rfl, rfl, rfl, rfl, rfl, rfl, rfl, rfl, ?_, rfl, rfl⟩
  exact extAddr_halves c.extAddr0

end Sys2Proof.Proofs.Registers

/-! PROOFS. Which words are illegal (O6). -/

namespace Sys2Proof.Proofs.IllegalWord

open Sys2Proof.Machine Sys2Proof.Safety

/-- A field that ends below the opcode is zero exactly when the operand bits, as a number, end below the field. -/
theorem slice_eq_zero_iff (w : EventWord) {lo len : Nat} (h : lo + len = 28) :
    slice w lo len = 0#len ↔ w.toNat % 2 ^ 28 < 2 ^ lo := by
  have hfield : (slice w lo len).toNat = w.toNat % 2 ^ 28 / 2 ^ lo := by
    rw [slice_toNat, ← h, Nat.pow_add, Nat.mod_mul_right_div_self]
  rw [← BitVec.toNat_inj, hfield, BitVec.toNat_ofNat, Nat.zero_mod, Nat.div_eq_zero_iff_lt (Nat.two_pow_pos lo)]

/-! ### What decodes in a format has no must-be-zero bit set -/

section Formats

variable {w : EventWord} {i : Instr}

/-- R93: the operand bits are the code, and the code is legal. -/
theorem decodeFormatC_event {mk : BitVec 3 → Instr} (h : decodeFormatC mk w = .event i) :
    (slice w 0 3).toNat = w.toNat % 2 ^ 28 ∧ (mk (slice w 0 3)).wellFormed = true := by
  unfold decodeFormatC at h
  split at h
  · next hzero =>
    have hlow := (slice_eq_zero_iff w (by rfl)).1 hzero
    refine ⟨by rw [slice_toNat]; omega, ?_⟩
    by_contra hcode
    simp [hcode] at h
  · cases h

/-- R95. -/
theorem decodeFormatN_event {e : Instr} (h : decodeFormatN e w = .event i) : w.toNat % 2 ^ 28 = 0 := by
  unfold decodeFormatN at h
  split at h
  · next hzero => exact Nat.lt_one_iff.1 ((slice_eq_zero_iff w (by rfl)).1 hzero)
  · cases h

/-- R94. -/
theorem decodeFormatF_event (h : decodeFormatF w = .event i) : w.toNat % 2 ^ 28 < 2 ^ 9 := by
  unfold decodeFormatF at h
  split at h
  · next hzero => exact (slice_eq_zero_iff w (by rfl)).1 hzero
  · cases h

/-- R96. -/
theorem decodeFormatG_event (h : decodeFormatG w = .event i) : w.toNat % 2 ^ 24 = 0 := by
  unfold decodeFormatG at h
  split at h
  · next hzero => simpa [slice_toNat] using congrArg BitVec.toNat hzero
  · cases h

/-- R105: a word that decodes is not illegal, opcode by opcode (R91). -/
theorem not_illegalWord_of_decode (h : decode w = .event i) : ¬illegalWord w := by
  have hop : (slice w 28 4).toNat = w.toNat / 2 ^ 28 := by
    rw [slice_toNat]
    omega
  unfold illegalWord
  unfold decode at h
  rw [hop] at h
  split at h
  · omega
  · obtain ⟨hcode, hlegal⟩ := decodeFormatC_event h
    have hlt : (slice w 0 3).toNat < 2 := of_decide_eq_true hlegal
    omega
  · obtain ⟨hcode, hlegal⟩ := decodeFormatC_event h
    have hlt : (slice w 0 3).toNat < 4 := of_decide_eq_true hlegal
    omega
  · have hcode := (decodeFormatC_event h).1
    omega
  · have hlow := decodeFormatF_event h
    omega
  · obtain ⟨hcode, hlegal⟩ := decodeFormatC_event h
    have hlt : (slice w 0 3).toNat < 4 := of_decide_eq_true hlegal
    omega
  -- format N, the three timer events
  iterate 3
    have hzero := decodeFormatN_event h
    omega
  · have hzero := decodeFormatG_event h
    omega
  · cases h

end Formats

theorem decode_of_illegalWord {w : EventWord} (h : illegalWord w) : ∃ why, decode w = .illegal why := by
  cases hdecode : decode w with
  | event i => exact absurd h (not_illegalWord_of_decode hdecode)
  | illegal why => exact ⟨why, rfl⟩

/-- Settles O6: an illegal word does not decode, and what `step` then does is emit the one trace. -/
theorem illegalWordIsConsumedWithOneTrace : Obligations.IllegalWordIsConsumedWithOneTrace := by
  intro s ev rest hf hpending hillegal
  obtain ⟨why, hdecode⟩ := decode_of_illegalWord hillegal
  simp only [step, hpending, hdecode, accept_running hf]
  rfl

end Sys2Proof.Proofs.IllegalWord

/-! PROOFS. Nothing reads the outputs (O13): each procedure commutes with putting a history before the outputs there
are. A procedure built of others commutes because they do, by `simp`. In one that also writes a register itself, the
history is moved inward to that write, where the two sides agree by definition. -/

namespace Sys2Proof.Proofs.History

open Sys2Proof.Machine Sys2Proof.Proofs.Event

/-- The state with the outputs `past` emitted before those it holds. -/
@[simps] def withHistory (past : List Action) (s : State) : State := { s with out := past ++ s.out }

variable (past : List Action) (s : State)

/-! ### Conditions and computed values read other fields only -/

@[simp] theorem queueHead_withHistory : queueHead (withHistory past s) = queueHead s := rfl
@[simp] theorem isHeld_withHistory (i : Instr) : isHeld i (withHistory past s) = isHeld i s := rfl
@[simp] theorem ackOwed_withHistory (h : Header) : ackOwed h (withHistory past s) = ackOwed h s := rfl
@[simp] theorem filterVerdict_withHistory (h : Header) : filterVerdict h (withHistory past s) = filterVerdict h s := rfl
@[simp] theorem submitVerdict_withHistory (tag : Tag) (txopt : TxOpt) (srcMode dstMode : AddrMode) (low : BitVec 10) :
    submitVerdict tag txopt srcMode dstMode low (withHistory past s) =
      submitVerdict tag txopt srcMode dstMode low s := rfl

/-! ### The primitive operations -/

@[simp] theorem emit_withHistory (a : Action) : emit a (withHistory past s) = withHistory past (emit a s) := by
  simp [emit, withHistory]

@[simp] theorem trace_withHistory (event : TraceEvent) :
    trace event (withHistory past s) = withHistory past (trace event s) := emit_withHistory past s _

@[simp] theorem iffClear_withHistory : iffClear (withHistory past s) = withHistory past (iffClear s) := rfl
@[simp] theorem ackwCancel_withHistory : ackwCancel (withHistory past s) = withHistory past (ackwCancel s) := rfl
@[simp] theorem hsClear_withHistory : hsClear (withHistory past s) = withHistory past (hsClear s) := rfl
@[simp] theorem sceCancel_withHistory : sceCancel (withHistory past s) = withHistory past (sceCancel s) := rfl
@[simp] theorem hswCancel_withHistory : hswCancel (withHistory past s) = withHistory past (hswCancel s) := rfl
@[simp] theorem popFront_withHistory : popFront (withHistory past s) = withHistory past (popFront s) := rfl
@[simp] theorem pushFront_withHistory (e : OutFrame) :
    pushFront e (withHistory past s) = withHistory past (pushFront e s) := rfl
@[simp] theorem pushBack_withHistory (e : OutFrame) :
    pushBack e (withHistory past s) = withHistory past (pushBack e s) := rfl
@[simp] theorem sceSchedule_withHistory (action : SceAction) (delay : Delay) :
    sceSchedule action delay (withHistory past s) = withHistory past (sceSchedule action delay s) := rfl
@[simp] theorem recordRequester_withHistory (h : Header) (m : Metadata) :
    recordRequester h m (withHistory past s) = withHistory past (recordRequester h m s) := rfl

@[simp] theorem ite_withHistory (c : Prop) [Decidable c] (t : State) :
    (if c then withHistory past s else withHistory past t) = withHistory past (if c then s else t) :=
  (apply_ite (withHistory past) c s t).symm

/-! ### The common procedures -/

@[simp] theorem enterSending_withHistory (e : OutFrame) (inQueue : Bool) :
    enterSending e inQueue (withHistory past s) = withHistory past (enterSending e inQueue s) := by
  simp [enterSending_eq, withHistory]

@[simp] theorem arbCancel_withHistory : arbCancel (withHistory past s) = withHistory past (arbCancel s) := by
  unfold arbCancel
  rw [emit_withHistory, ← ite_withHistory]
  rfl

@[simp] theorem hswArm_withHistory : hswArm (withHistory past s) = withHistory past (hswArm s) := by
  unfold hswArm
  rw [← ite_withHistory]
  rfl

@[simp] theorem checkQueue_withHistory : checkQueue (withHistory past s) = withHistory past (checkQueue s) := by
  unfold checkQueue
  rw [← ite_withHistory, ← trace_withHistory, ← emit_withHistory]
  rfl

@[simp] theorem enterIdle_withHistory : enterIdle (withHistory past s) = withHistory past (enterIdle s) := by
  unfold enterIdle
  rw [← checkQueue_withHistory, ← emit_withHistory]
  rfl

@[simp] theorem forceIdle_withHistory : forceIdle (withHistory past s) = withHistory past (forceIdle s) := by
  unfold forceIdle
  rw [← ite_withHistory, ← emit_withHistory]
  rfl

@[simp] theorem confirmHead_withHistory (status : Status) :
    confirmHead status (withHistory past s) = withHistory past (confirmHead status s) := by
  simp [confirmHead]

@[simp] theorem removeHead_withHistory : removeHead (withHistory past s) = withHistory past (removeHead s) := by
  unfold removeHead
  rw [← ite_withHistory]
  rfl

@[simp] theorem prepareRetransmission_withHistory :
    prepareRetransmission (withHistory past s) = withHistory past (prepareRetransmission s) := by
  unfold prepareRetransmission
  simp only [← iffClear_withHistory, ← ite_withHistory, ← trace_withHistory, ← removeHead_withHistory,
    ← confirmHead_withHistory]
  rfl

@[simp] theorem fatal_withHistory (reason : FatalReason) (code : BitVec 3) :
    fatal reason code (withHistory past s) = withHistory past (fatal reason code s) := by
  simp [fatal_eq, withHistory]

@[simp] theorem abandonCurrent_withHistory :
    abandonCurrent (withHistory past s) = withHistory past (abandonCurrent s) := by
  unfold abandonCurrent
  rw [withHistory_ms]
  cases s.ms with
  | idle | sending => rfl
  | channelAccess => exact arbCancel_withHistory past s
  | ackPending => exact prepareRetransmission_withHistory past s
  | cfePending | cfeAckPending | energyPending =>
    simp only [← iffClear_withHistory, ← ite_withHistory, ← trace_withHistory, ← hswCancel_withHistory]
    rfl

@[simp] theorem generateAck_withHistory (seq : SeqNo) :
    generateAck seq (withHistory past s) = withHistory past (generateAck seq s) := by
  simp [generateAck]

@[simp] theorem badEvent_withHistory (word : EventWord) :
    badEvent word (withHistory past s) = withHistory past (badEvent word s) := trace_withHistory past s _

/-- What has to wait at the port does not depend on the outputs. -/
@[simp] theorem hold_withHistory (i : Instr) : hold i (withHistory past s) = withHistory past (hold i s) := by
  have htake : takeAcceptable [sourceOf i] (withHistory past s) s.pending = takeAcceptable [sourceOf i] s s.pending :=
    Count.takeAcceptable_congr (fun waiting word => by simp [waitingSource]) _ _
  simp only [hold, withHistory_pending, htake]
  rfl

/-! ### The confirmations of the Arbiter and of Radio Control -/

@[simp] theorem channelIdle_withHistory : channelIdle (withHistory past s) = withHistory past (channelIdle s) :=
  enterSending_withHistory past { s with arbRun := false } (queueHead s) true

@[simp] theorem channelAccessFailed_withHistory :
    channelAccessFailed (withHistory past s) = withHistory past (channelAccessFailed s) := by
  unfold channelAccessFailed
  simp only [← enterIdle_withHistory, ← removeHead_withHistory, ← trace_withHistory, ← confirmHead_withHistory]
  rfl

@[simp] theorem ccaConfirmed_withHistory (code : BitVec 3) :
    ccaConfirmed code (withHistory past s) = withHistory past (ccaConfirmed code s) := by
  unfold ccaConfirmed
  cases CcaResult.ofCode code with
  | none => exact badEvent_withHistory past s _
  | some result => cases result <;> simp

@[simp] theorem trxConfirmed_withHistory (code : BitVec 3) :
    trxConfirmed code (withHistory past s) = withHistory past (trxConfirmed code s) := by
  have hissue : issueTransmit (withHistory past s) = withHistory past (issueTransmit s) := by
    unfold issueTransmit
    rw [withHistory_iff, emit_withHistory, ← ite_withHistory]
    rfl
  unfold trxConfirmed
  cases TrxConfirmation.ofCode code with
  | none => exact badEvent_withHistory past s _
  | some conf => simp [hissue]

@[simp] theorem awaitAck_withHistory : awaitAck (withHistory past s) = withHistory past (awaitAck s) :=
  emit_withHistory past { s with ms := .ackPending, ackw := { armed := true, dur := ackWaitDuration s.cfg } } _

@[simp] theorem awaitHandshake_withHistory (next : MacState) :
    awaitHandshake next (withHistory past s) = withHistory past (awaitHandshake next s) := by
  unfold awaitHandshake
  rw [withHistory_iff, confirmHead_withHistory, removeHead_withHistory, ← emit_withHistory, ← hswArm_withHistory]
  cases s.iff.inQueue <;> rfl

@[simp] theorem transmissionDone_withHistory :
    transmissionDone (withHistory past s) = withHistory past (transmissionDone s) := by
  simp [transmissionDone]

@[simp] theorem transmitted_withHistory : transmitted (withHistory past s) = withHistory past (transmitted s) := by
  unfold transmitted
  rw [withHistory_iff]
  cases s.iff.tag <;> simp

@[simp] theorem txConfirmed_withHistory (code : BitVec 3) :
    txConfirmed code (withHistory past s) = withHistory past (txConfirmed code s) := by
  simp [txConfirmed]

/-! ### RX_FRAME -/

@[simp] theorem retryOrGiveUp_withHistory :
    retryOrGiveUp (withHistory past s) = withHistory past (retryOrGiveUp s) := by
  simp [retryOrGiveUp]

@[simp] theorem ackReceived_withHistory (h : Header) :
    ackReceived h (withHistory past s) = withHistory past (ackReceived h s) := by
  simp [ackReceived, ackMatched]

@[simp] theorem donorRfe_withHistory (h : Header) (m : Metadata) :
    donorRfe h m (withHistory past s) = withHistory past (donorRfe h m s) := by
  simp [donorRfe, violation]

@[simp] theorem sensorFreeze_withHistory (h : Header) (m : Metadata) :
    sensorFreeze h m (withHistory past s) = withHistory past (sensorFreeze h m s) := by
  unfold sensorFreeze
  simp only [sceCancel_withHistory, arbCancel_withHistory, hswCancel_withHistory, ← trace_withHistory,
    ← hswArm_withHistory]
  rfl

@[simp] theorem sensorRfe_withHistory (h : Header) (m : Metadata) :
    sensorRfe h m (withHistory past s) = withHistory past (sensorRfe h m s) := by
  unfold sensorRfe
  rw [withHistory_ms]
  cases s.ms with
  | idle | channelAccess | energyPending => exact sensorFreeze_withHistory past s h m
  | sending | ackPending | cfePending | cfeAckPending => exact trace_withHistory past s _

@[simp] theorem recordAnnounced_withHistory (h : Header) :
    recordAnnounced h (withHistory past s) = withHistory past (recordAnnounced h s) := by
  unfold recordAnnounced
  rw [← trace_withHistory]
  rfl

@[simp] theorem honourCfeAck_withHistory (m : Metadata) :
    honourCfeAck m (withHistory past s) = withHistory past (honourCfeAck m s) := by
  unfold honourCfeAck
  rw [← trace_withHistory, ← sceSchedule_withHistory]
  rfl

@[simp] theorem hsReact_withHistory (h : Header) (m : Metadata) :
    hsReact h m (withHistory past s) = withHistory past (hsReact h m s) := by
  unfold hsReact
  rw [withHistory_cfg]
  cases m.tag with
  | rfe | cfe => cases s.cfg.role <;> simp [violation]
  | cfeAck | energy | data | ack | unused | untagged => simp [violation]

@[simp] theorem reactToFrame_withHistory (h : Header) (m : Metadata) :
    reactToFrame h m (withHistory past s) = withHistory past (reactToFrame h m s) := by
  simp [reactToFrame, receivedWhileSending]

@[simp] theorem indicate_withHistory (h : Header) (m : Metadata) (lqi : Lqi) (f : Frame) :
    indicate h m lqi f (withHistory past s) = withHistory past (indicate h m lqi f s) := by
  simp [indicate]

@[simp] theorem dispatchFrame_withHistory (h : Header) (m : Metadata) (lqi : Lqi) (f : Frame) :
    dispatchFrame h m lqi f (withHistory past s) = withHistory past (dispatchFrame h m lqi f s) := by
  unfold dispatchFrame
  cases h.ftype <;> simp [dataAccepted, commandAccepted]

@[simp] theorem sniffed_withHistory (f : Frame) : sniffed f (withHistory past s) = withHistory past (sniffed f s) := by
  simp [sniffed]

@[simp] theorem frameReceived_withHistory (inj : Bool) (lqi : Lqi) (f : Frame) :
    frameReceived inj lqi f (withHistory past s) = withHistory past (frameReceived inj lqi f s) := by
  unfold frameReceived
  rw [filterVerdict_withHistory]
  cases filterVerdict f.header s <;> simp

/-! ### The other events -/

@[simp] theorem sampleTotal_withHistory : sampleTotal (withHistory past s) = withHistory past (sampleTotal s) := by
  simp [sampleTotal]

@[simp] theorem sampleFirst_withHistory : sampleFirst (withHistory past s) = withHistory past (sampleFirst s) := by
  unfold sampleFirst
  rw [← trace_withHistory]
  rfl

@[simp] theorem sampleSecond_withHistory : sampleSecond (withHistory past s) = withHistory past (sampleSecond s) := by
  simp only [sampleSecond, ← ite_withHistory]
  simp only [sceSchedule, trace, emit, withHistory, List.append_assoc]
  rfl

@[simp] theorem energySampled_withHistory (slot : BitVec 3) :
    energySampled slot (withHistory past s) = withHistory past (energySampled slot s) := by
  unfold energySampled
  split <;> simp

@[simp] theorem emitHs_withHistory (action : SceAction) :
    emitHs action (withHistory past s) = withHistory past (emitHs action s) := by
  unfold emitHs
  simp only [← ite_withHistory, ← trace_withHistory, ← pushFront_withHistory, ← pushBack_withHistory]
  rfl

@[simp] theorem sceFired_withHistory : sceFired (withHistory past s) = withHistory past (sceFired s) := by
  unfold sceFired
  simp only [← checkQueue_withHistory, ← emitHs_withHistory, ← forceIdle_withHistory,
    ← abandonCurrent_withHistory]
  rfl

@[simp] theorem hsTimedOut_withHistory : hsTimedOut (withHistory past s) = withHistory past (hsTimedOut s) := by
  simp [hsTimedOut]

@[simp] theorem submitted_withHistory (handle : Handle) (tag : Tag) (txopt : TxOpt) (srcMode dstMode : AddrMode)
    (low : BitVec 10) :
    submitted handle tag txopt srcMode dstMode low (withHistory past s) =
      withHistory past (submitted handle tag txopt srcMode dstMode low s) := by
  unfold submitted
  rw [submitVerdict_withHistory]
  cases submitVerdict tag txopt srcMode dstMode low s with
  | none =>
    simp only [enqueueSubmission, ← checkQueue_withHistory, ← trace_withHistory, ← pushBack_withHistory]
    rfl
  | some status => simp [rejectSubmission]

@[simp] theorem configured_withHistory (reg : BitVec 4) :
    configured reg (withHistory past s) = withHistory past (configured reg s) := by
  unfold configured
  split <;> simp only [badEvent, ← trace_withHistory] <;> rfl

/-- No event reads the outputs: in every arm each procedure commutes with the history. -/
theorem effect_withHistory (i : Instr) : effect i (withHistory past s) = withHistory past (effect i s) := by
  cases i <;> simp [effect]

/-- Settles O13: the outputs there were are a history that every event leaves in front of its own. -/
theorem outputsAreAppendedAndNeverRead : Obligations.OutputsAreAppendedAndNeverRead := by
  intro i s t hexec
  obtain ⟨hf, rfl⟩ := exec_eq_next.1 hexec
  have hsplit : s = withHistory s.out { s with out := [] } := by simp [withHistory]
  refine exec_eq_next.2 ⟨hf, ?_⟩
  conv_lhs => rw [hsplit]
  exact effect_withHistory _ _ i

end Sys2Proof.Proofs.History

/-! PROOFS. `AbandonCurrent` (O23). A statement writes the table of R132 out as `waitLeft`; the model's procedure is
that table wherever an awaited acknowledgment has a queued frame. -/

namespace Sys2Proof.Proofs.Abandon

open Sys2Proof.Machine Sys2Proof.Safety Sys2Proof.Proofs.Invariance

variable {s : State}

/-! ### The procedures and their written-out records -/

/-- R212: giving up the acknowledgment of the queue's head, the frame kept for a retry or dropped. -/
theorem prepareRetransmission_eq_ackLost {e : OutFrame} {rest : List OutFrame} (hq : s.txq = e :: rest) :
    prepareRetransmission s = ackLost e rest s := by
  have hhead : queueHead s = e := queueHead_cons hq
  rcases prepareRetransmission_cases s with ⟨hr, heq⟩ | ⟨hr, ho, heq⟩ | ⟨hr, ho, heq⟩ <;> rw [heq]
  · simp [ackLost, hr, slotCleared, ackWaitCancelled, emitted]
  all_goals
    rw [hhead] at ho ⊢
    simp [ackLost, hr, slotCleared, ackWaitCancelled, emitted, confirmed, headReleased, ho, hq]

theorem waitLeft_wait (h : isHandshakeWait s.ms = true) :
    waitLeft s =
      slotCleared
        { s with
          hsw := { armed := false }, out := s.out ++ (if s.iff.valid then [.trace (.hsAborted s.ms)] else []) } := by
  cases hms : s.ms with
  | cfePending | cfeAckPending | energyPending => simp [waitLeft, hms]
  | idle | channelAccess | sending | ackPending => simp [hms, isHandshakeWait] at h

/-- R125: a cancellation of the Arbiter is emitted only while it runs. -/
theorem arbCancel_eq (s : State) :
    arbCancel s = { s with arbRun := false, out := s.out ++ (if s.arbRun then [.arbCancel] else []) } := by
  rcases arbCancel_cases s with ⟨hrun, heq⟩ | ⟨hoff, heq⟩ <;> rw [heq]
  · simp [hrun]
  · simp only [hoff, Bool.false_eq_true, if_false, List.append_nil]
    rw [← hoff]

/-- R132: row by row, the procedure is its table. -/
theorem abandonCurrent_eq_waitLeft (hq : s.ms = .ackPending → s.txq ≠ []) : abandonCurrent s = waitLeft s := by
  by_cases hwait : isHandshakeWait s.ms = true
  · rw [abandonCurrent_wait hwait, waitLeft_wait hwait, slotCleared]
  · cases hms : s.ms with
    | idle => simp [abandonCurrent_idle hms, waitLeft, hms]
    | channelAccess => simp [abandonCurrent_channelAccess hms, waitLeft, hms, arbCancel_eq]
    | sending => simp [abandonCurrent_sending hms, waitLeft, hms]
    | ackPending =>
      obtain ⟨e, rest, htxq⟩ := List.exists_cons_of_ne_nil (hq hms)
      simp [abandonCurrent_ackPending hms, prepareRetransmission_eq_ackLost htxq, waitLeft, hms, htxq]
    | cfePending | cfeAckPending | energyPending => simp [hms, isHandshakeWait] at hwait

/-! ### `MS` -/

@[simp] theorem prepareRetransmission_ms (s : State) : (prepareRetransmission s).ms = s.ms := by
  rcases prepareRetransmission_cases s with ⟨_, heq⟩ | ⟨_, _, heq⟩ | ⟨_, _, heq⟩ <;> rw [heq]

/-- R132: "It does not write `MS`; the caller does." -/
@[simp] theorem abandonCurrent_ms (s : State) : (abandonCurrent s).ms = s.ms := by
  by_cases hwait : isHandshakeWait s.ms = true
  · rw [abandonCurrent_wait hwait]
  · cases hms : s.ms with
    | idle => rw [abandonCurrent_idle hms, hms]
    | channelAccess => rw [abandonCurrent_channelAccess hms, arbCancel_eq, hms]
    | sending => rw [abandonCurrent_sending hms, hms]
    | ackPending => rw [abandonCurrent_ackPending hms, prepareRetransmission_ms, hms]
    | cfePending | cfeAckPending | energyPending => simp [hms, isHandshakeWait] at hwait

/-- R65, R33: an awaited acknowledgment is that of a queued frame. -/
theorem txq_ne_nil_of_ackPending (h : Invariants s) (hms : s.ms = .ackPending) : s.txq ≠ [] := by
  obtain ⟨_, he, _⟩ := (accounted_of_invariants h).ack_owner hms
  exact List.ne_nil_of_mem he

/-- Settles O23: the table row by row, and its post-condition is that leaving a wait settles the block. -/
theorem abandonCurrentLeavesNothingRunning : Obligations.AbandonCurrentLeavesNothingRunning := by
  intro s hinv hms
  have hsettled := (accounted_of_invariants hinv).settled_abandonCurrent hms
  exact ⟨abandonCurrent_eq_waitLeft (txq_ne_nil_of_ackPending hinv), hsettled.slot_free, hsettled.arbRun_off,
    hsettled.ackw_off, hsettled.hsw_off, abandonCurrent_ms s⟩

end Sys2Proof.Proofs.Abandon

/-! PROOFS. Upper-layer frames leave the queue in order, each confirmed as it leaves (O19). The handles of the admitted
submissions, those already ended before those still queued, are one list that every event but SUBMIT keeps: an entry
that leaves the head of the queue is confirmed in the same event, which moves its handle from the second part to the
first. -/

namespace Sys2Proof.Proofs.Conservation

open Sys2Proof.Machine Sys2Proof.Safety Sys2Proof.Proofs.Event Sys2Proof.Proofs.Invariance Sys2Proof.Proofs.LastingPart
open Sys2Proof.Proofs.Abandon (txq_ne_nil_of_ackPending)
open Sys2Proof.Proofs.History (outputsAreAppendedAndNeverRead)

/-! ### The handles of the admitted submissions -/

/-- The handles of the upper layer's entries in a queue, oldest first. -/
def queuedHandles (q : List OutFrame) : List Handle := (upstreamEntries q).map fun e => e.handle

/-- The handles of the admitted submissions: those already ended, then those still queued (R149). -/
def admittedHandles (s : State) : List Handle := endedHandles s.out ++ queuedHandles s.txq

theorem endedHandles_append (acts more : List Action) :
    endedHandles (acts ++ more) = endedHandles acts ++ endedHandles more := List.filterMap_append ..

theorem upstreamEntries_append (q more : List OutFrame) :
    upstreamEntries (q ++ more) = upstreamEntries q ++ upstreamEntries more := List.filter_append ..

theorem upstreamEntries_singleton {e : OutFrame} (h : e.origin = .upstream) : upstreamEntries [e] = [e] := by
  simp [upstreamEntries, h]

theorem upstreamEntries_take_append_tail (q : List OutFrame) :
    upstreamEntries (q.take 1) ++ upstreamEntries q.tail = upstreamEntries q := by
  rw [← upstreamEntries_append, ← List.drop_one, List.take_append_drop]

variable {s t : State}

/-! ### Operations that end no submission -/

section Operations

variable (s : State)

theorem admittedHandles_emit {a : Action} (ha : endedHandle a = none) :
    admittedHandles (emit a s) = admittedHandles s := by
  simp [admittedHandles, endedHandles, ha]

@[simp] theorem admittedHandles_trace (event : TraceEvent) : admittedHandles (trace event s) = admittedHandles s :=
  admittedHandles_emit s rfl

@[simp] theorem admittedHandles_iffClear : admittedHandles (iffClear s) = admittedHandles s := rfl
@[simp] theorem admittedHandles_ackwCancel : admittedHandles (ackwCancel s) = admittedHandles s := rfl
@[simp] theorem admittedHandles_hsClear : admittedHandles (hsClear s) = admittedHandles s := rfl
@[simp] theorem admittedHandles_sceCancel : admittedHandles (sceCancel s) = admittedHandles s := rfl
@[simp] theorem admittedHandles_hswCancel : admittedHandles (hswCancel s) = admittedHandles s := rfl

@[simp] theorem admittedHandles_hswArm : admittedHandles (hswArm s) = admittedHandles s := by
  obtain ⟨_, heq⟩ := hswArm_writes s
  rw [heq]; rfl

@[simp] theorem admittedHandles_arbCancel : admittedHandles (arbCancel s) = admittedHandles s := by
  rcases arbCancel_cases s with ⟨_, heq⟩ | ⟨_, heq⟩ <;> rw [heq]
  exact admittedHandles_emit s (a := .arbCancel) rfl

@[simp] theorem admittedHandles_forceIdle : admittedHandles (forceIdle s) = admittedHandles s := by
  rcases forceIdle_cases s with ⟨_, heq⟩ | ⟨_, heq⟩ <;> rw [heq]
  exact admittedHandles_emit s (a := .trxRequest .rxOn) rfl

@[simp] theorem admittedHandles_checkQueue : admittedHandles (checkQueue s) = admittedHandles s := by
  rcases checkQueue_cases s with ⟨_, _, _, _, heq⟩ | ⟨_, heq⟩ <;> rw [heq]
  simp [admittedHandles, endedHandles, endedHandle]

@[simp] theorem admittedHandles_enterIdle : admittedHandles (enterIdle s) = admittedHandles s :=
  (admittedHandles_checkQueue _).trans (admittedHandles_emit s rfl)

@[simp] theorem admittedHandles_enterSending (e : OutFrame) (inQueue : Bool) :
    admittedHandles (enterSending e inQueue s) = admittedHandles s :=
  (admittedHandles_trace _ _).trans (admittedHandles_emit s rfl)

@[simp] theorem admittedHandles_fatal (reason : FatalReason) (code : BitVec 3) :
    admittedHandles (fatal reason code s) = admittedHandles s := by
  cases harb : s.arbRun <;> simp [fatal_eq, harb, admittedHandles, endedHandles, endedHandle]

@[simp] theorem admittedHandles_hold (i : Instr) : admittedHandles (hold i s) = admittedHandles s := rfl

end Operations

/-! ### The head leaves the queue -/

theorem queuedHandles_cons (e : OutFrame) (q : List OutFrame) :
    queuedHandles (e :: q) = queuedHandles [e] ++ queuedHandles q := by
  simp [queuedHandles, ← List.map_append, ← upstreamEntries_append]

/-- A confirmation that ends a submission accounts for the head of the queue. -/
theorem endedHandles_confirmHead {e : OutFrame} {rest : List OutFrame} (hq : s.txq = e :: rest) {status : Status}
    (hends : endsSubmission status = true) :
    endedHandles (confirmHead status s).out = endedHandles s.out ++ queuedHandles [e] := by
  have hhead : queueHead s = e := queueHead_cons hq
  rcases confirmHead_cases status s with ⟨ho, heq⟩ | ⟨ho, heq⟩ <;> rw [heq] <;> rw [hhead] at ho
  · simp [hhead, endedHandles, endedHandle, hends, queuedHandles, upstreamEntries, ho]
  · simp [queuedHandles, upstreamEntries, ho]

/-- R122, R123: confirming the head and removing it moves its handle to the ended ones. -/
theorem admittedHandles_release (hq : s.txq ≠ []) {status : Status} (hends : endsSubmission status = true) :
    admittedHandles (removeHead (confirmHead status s)) = admittedHandles s := by
  obtain ⟨e, rest, htxq⟩ := List.exists_cons_of_ne_nil hq
  have hconfirmed : (confirmHead status s).txq = e :: rest := by
    obtain ⟨_, heq⟩ := confirmHead_writes s status
    rw [heq, htxq]
  obtain ⟨_, _, heq⟩ := removeHead_writes (confirmHead status s)
  rw [heq]
  simp only [admittedHandles, hconfirmed, htxq, endedHandles_confirmHead htxq hends, List.tail_cons,
    queuedHandles_cons e rest, List.append_assoc]

/-- A trace between the two makes no difference to it. -/
theorem admittedHandles_release_traced (hq : s.txq ≠ []) {status : Status} (hends : endsSubmission status = true)
    (event : TraceEvent) :
    admittedHandles (removeHead (trace event (confirmHead status s))) = admittedHandles s := by
  have hswap : removeHead (trace event (confirmHead status s)) = trace event (removeHead (confirmHead status s)) := by
    unfold removeHead
    rw [queueHead_trace]
    split <;> rfl
  rw [hswap, admittedHandles_trace, admittedHandles_release hq hends]

theorem admittedHandles_prepareRetransmission (hq : s.txq ≠ []) :
    admittedHandles (prepareRetransmission s) = admittedHandles s := by
  unfold prepareRetransmission
  rw [admittedHandles_iffClear]
  split
  · exact admittedHandles_trace s _
  · exact admittedHandles_release_traced (s := ackwCancel s) hq rfl _

/-- R132. -/
theorem admittedHandles_abandonCurrent (hq : s.ms = .ackPending → s.txq ≠ []) :
    admittedHandles (abandonCurrent s) = admittedHandles s := by
  by_cases hwait : isHandshakeWait s.ms = true
  · rw [abandonCurrent_wait hwait]
    cases hv : s.iff.valid <;> simp [admittedHandles, endedHandles, endedHandle]
  · cases hms : s.ms with
    | idle => rw [abandonCurrent_idle hms]
    | channelAccess => rw [abandonCurrent_channelAccess hms, admittedHandles_arbCancel]
    | sending => rw [abandonCurrent_sending hms]
    | ackPending => rw [abandonCurrent_ackPending hms, admittedHandles_prepareRetransmission (hq hms)]
    | cfePending | cfeAckPending | energyPending => simp [hms, isHandshakeWait] at hwait

theorem admittedHandles_abandonCurrent_sceCancel (h : Invariants s) :
    admittedHandles (abandonCurrent (sceCancel s)) = admittedHandles s := by
  have hq : s.ms = .ackPending → s.txq ≠ [] := txq_ne_nil_of_ackPending h
  exact admittedHandles_abandonCurrent (s := sceCancel s) hq

theorem admittedHandles_retryOrGiveUp (h : Invariants s) (hms : s.ms = .ackPending) :
    admittedHandles (retryOrGiveUp s) = admittedHandles s :=
  (admittedHandles_enterIdle _).trans (admittedHandles_prepareRetransmission (txq_ne_nil_of_ackPending h hms))

/-! ### The confirmations of the Arbiter and of Radio Control -/

theorem admittedHandles_ccaConfirmed (h : Invariants s) (code : BitVec 3) :
    admittedHandles (ccaConfirmed code s) = admittedHandles s := by
  unfold ccaConfirmed
  split
  · exact admittedHandles_trace s _
  · split
    · next hms =>
      split
      · exact admittedHandles_enterSending _ _ _
      · exact (admittedHandles_enterIdle _).trans
          (admittedHandles_release_traced (s := { s with arbRun := false }) (h.candidate hms) rfl _)
    · exact admittedHandles_trace s _

theorem admittedHandles_trxConfirmed (s : State) (code : BitVec 3) :
    admittedHandles (trxConfirmed code s) = admittedHandles s := by
  unfold trxConfirmed issueTransmit
  split
  · exact admittedHandles_trace s _
  · split
    · split
      · split
        · rfl
        · exact admittedHandles_emit s (a := .txRequest s.iff.frame) rfl
      · rfl
    · exact admittedHandles_fatal s _ _

/-- R168, R169: a transmitted frame that is still queued is confirmed and popped. -/
theorem admittedHandles_awaitHandshake (hq : s.iff.inQueue = true → s.txq ≠ []) (next : MacState) :
    admittedHandles (awaitHandshake next s) = admittedHandles s := by
  unfold awaitHandshake
  rw [admittedHandles_emit _ rfl, admittedHandles_hswArm]
  split
  · next hqueued => exact admittedHandles_release (hq hqueued) rfl
  · rfl

theorem admittedHandles_transmissionDone (hq : s.iff.inQueue = true → s.txq ≠ []) :
    admittedHandles (transmissionDone s) = admittedHandles s := by
  have hrel : admittedHandles (if s.iff.inQueue then s |> confirmHead .success |> removeHead else s) =
      admittedHandles s := by
    split
    · next hqueued => exact admittedHandles_release (hq hqueued) rfl
    · rfl
  unfold transmissionDone
  dsimp only
  rw [admittedHandles_enterIdle, admittedHandles_iffClear]
  split
  · exact hrel
  · exact hrel

theorem admittedHandles_transmitted (h : Invariants s) (hms : s.ms = .sending) :
    admittedHandles (transmitted s) = admittedHandles s := by
  have hq : s.iff.inQueue = true → s.txq ≠ [] := fun hqueued =>
    List.ne_nil_of_mem (List.mem_of_mem_head? (h.head_is_slot (h.slot_full (.inl hms)) hqueued))
  rw [← admittedHandles_trace s (.txDone s.iff.tag s.iff.seq)]
  unfold transmitted
  cases s.iff.tag with
  | data =>
    dsimp only
    split
    · exact admittedHandles_emit _ rfl
    · exact admittedHandles_transmissionDone (s := trace _ s) hq
  | rfe | cfe | cfeAck => exact admittedHandles_awaitHandshake (s := trace _ s) hq _
  | energy | ack | unused | untagged => exact admittedHandles_transmissionDone (s := trace _ s) hq

theorem admittedHandles_txConfirmed (h : Invariants s) (code : BitVec 3) :
    admittedHandles (txConfirmed code s) = admittedHandles s := by
  unfold txConfirmed
  split
  · next hok => exact admittedHandles_transmitted h hok.1
  · exact admittedHandles_fatal s _ _

/-! ### RX_FRAME -/

theorem admittedHandles_ackReceived (h : Invariants s) (head : Header) :
    admittedHandles (ackReceived head s) = admittedHandles s := by
  unfold ackReceived
  split
  · next hms =>
    have hq : s.txq ≠ [] := txq_ne_nil_of_ackPending h hms
    split
    · exact (admittedHandles_enterIdle _).trans
        (admittedHandles_release_traced (s := ackwCancel s) hq rfl _)
    · exact (admittedHandles_retryOrGiveUp (invariants_trace h _) hms).trans (admittedHandles_trace s _)
  · exact admittedHandles_trace s _

theorem admittedHandles_generateAck (h : Invariants s) (seq : SeqNo) :
    admittedHandles (generateAck seq s) = admittedHandles s := by
  simp [generateAck, admittedHandles_abandonCurrent (txq_ne_nil_of_ackPending h)]

theorem admittedHandles_donorRfe (h : Invariants s) (head : Header) (m : Metadata) :
    admittedHandles (donorRfe head m s) = admittedHandles s := by
  unfold donorRfe
  split
  · rw [admittedHandles_trace]
    exact (admittedHandles_forceIdle _).trans (admittedHandles_abandonCurrent_sceCancel h)
  · exact admittedHandles_trace s _

theorem admittedHandles_sensorFreeze (s : State) (head : Header) (m : Metadata) :
    admittedHandles (sensorFreeze head m s) = admittedHandles s :=
  ((admittedHandles_trace _ _).trans (admittedHandles_hswArm _)).trans (admittedHandles_arbCancel (sceCancel s))

theorem admittedHandles_hsReact (h : Invariants s) (head : Header) (m : Metadata) :
    admittedHandles (hsReact head m s) = admittedHandles s := by
  unfold hsReact
  cases m.tag with
  | rfe =>
    cases s.cfg.role with
    | energyDonor => exact admittedHandles_donorRfe h head m
    | sensor =>
      dsimp only [sensorRfe]
      cases s.ms with
      | idle | channelAccess | energyPending => exact admittedHandles_sensorFreeze s head m
      | sending | ackPending | cfePending | cfeAckPending => exact admittedHandles_trace s _
  | cfe => cases s.cfg.role <;> exact admittedHandles_trace s _
  | cfeAck =>
    dsimp only
    split <;> exact admittedHandles_trace s _
  | energy | data | ack | unused | untagged => exact admittedHandles_trace s _

theorem admittedHandles_receivedWhileSending (s : State) (head : Header) (m : Metadata) :
    admittedHandles (receivedWhileSending head m s) = admittedHandles s := by
  unfold receivedWhileSending
  dsimp only
  split <;> split <;> simp

theorem admittedHandles_reactToFrame (h : Invariants s) (head : Header) (m : Metadata) :
    admittedHandles (reactToFrame head m s) = admittedHandles s := by
  unfold reactToFrame
  split
  · exact admittedHandles_receivedWhileSending s head m
  · split
    · split
      · exact (admittedHandles_generateAck (invariants_trace h _) _).trans (admittedHandles_trace s _)
      · exact admittedHandles_generateAck h _
    · split
      · exact admittedHandles_hsReact h head m
      · rfl

theorem admittedHandles_dataAccepted (h : Invariants s) (head : Header) (m : Metadata) (lqi : Lqi) (f : Frame) :
    admittedHandles (dataAccepted head m lqi f s) = admittedHandles s := by
  rw [← admittedHandles_reactToFrame h head m]
  unfold dataAccepted indicate
  split
  · exact admittedHandles_emit _ rfl
  · rfl

theorem admittedHandles_dispatchFrame (h : Invariants s) (head : Header) (m : Metadata) (lqi : Lqi) (f : Frame) :
    admittedHandles (dispatchFrame head m lqi f s) = admittedHandles s := by
  unfold dispatchFrame
  split
  · exact admittedHandles_ackReceived h head
  · exact admittedHandles_trace s _
  · exact admittedHandles_dataAccepted h head m lqi f
  · exact (admittedHandles_trace _ _).trans (admittedHandles_dataAccepted h head m lqi f)
  · rfl

theorem admittedHandles_sniffed (s : State) (f : Frame) : admittedHandles (sniffed f s) = admittedHandles s := by
  unfold sniffed
  dsimp only
  split
  · exact (admittedHandles_emit _ rfl).trans (admittedHandles_emit s rfl)
  · exact admittedHandles_emit s rfl

theorem admittedHandles_frameReceived (h : Invariants s) (inj : Bool) (lqi : Lqi) (f : Frame) :
    admittedHandles (frameReceived inj lqi f s) = admittedHandles s := by
  have hsniffed : Invariants (sniffed f s) := by
    obtain ⟨_, heq⟩ := sniffed_writes s f
    rw [heq]
    exact invariants_congr h rfl
  unfold frameReceived
  split
  · split
    · exact admittedHandles_trace s _
    · rw [← admittedHandles_sniffed s f]
      split
      · exact admittedHandles_trace _ _
      · exact admittedHandles_dispatchFrame hsniffed _ _ _ _
  · exact admittedHandles_trace s _

/-! ### The other events -/

theorem admittedHandles_energySampled (s : State) (slot : BitVec 3) :
    admittedHandles (energySampled slot s) = admittedHandles s := by
  unfold energySampled
  split
  · unfold sampleTotal
    dsimp only
    split
    · simp only [admittedHandles_enterIdle, admittedHandles_iffClear, admittedHandles_hsClear,
        admittedHandles_sceCancel, admittedHandles_hswCancel, admittedHandles_trace]
      exact (admittedHandles_emit _ rfl).trans (admittedHandles_trace s _)
    · exact admittedHandles_trace s _
  · exact admittedHandles_trace s _
  · unfold sampleSecond
    dsimp only
    split
    · split
      · exact (admittedHandles_trace _ _).trans (admittedHandles_trace s _)
      · exact admittedHandles_trace s _
    · exact admittedHandles_trace s _
  · exact admittedHandles_trace s _
  · exact admittedHandles_trace s _

/-- R246: an emitted handshake frame is not the upper layer's. -/
theorem admittedHandles_emitHs (action : SceAction) (s : State) :
    admittedHandles (emitHs action s) = admittedHandles s := by
  unfold emitHs
  dsimp only
  split
  · exact admittedHandles_trace s _
  · split
    · exact admittedHandles_trace s _
    · rw [admittedHandles_trace]
      split <;> simp [admittedHandles, queuedHandles, upstreamEntries]

theorem admittedHandles_sceFired (h : Invariants s) : admittedHandles (sceFired s) = admittedHandles s := by
  unfold sceFired
  rw [admittedHandles_checkQueue, admittedHandles_emitHs, admittedHandles_forceIdle]
  exact admittedHandles_abandonCurrent_sceCancel h

theorem admittedHandles_configured (s : State) (reg : BitVec 4) :
    admittedHandles (configured reg s) = admittedHandles s := by
  unfold configured
  split <;> exact admittedHandles_trace s _

/-- Whether an event is a SUBMIT. -/
def isSubmission : Instr → Bool
  | .submit _ _ _ _ _ _ => true
  | .ccaConf _ | .trxConf _ | .txConf _ | .rxFrame _ _ | .energySample _ | .ackwaitFire | .sceFire | .hswaitFire
  | .cfgWrite _ => false

/-- No event but SUBMIT admits a submission, and none loses one. -/
theorem admittedHandles_effect (h : Invariants s) {i : Instr} (hi : isSubmission i = false) :
    admittedHandles (effect i s) = admittedHandles s := by
  cases i with
  | submit => cases hi
  | ccaConf code => exact admittedHandles_ccaConfirmed h code
  | trxConf code => exact admittedHandles_trxConfirmed s code
  | txConf code => exact admittedHandles_txConfirmed h code
  | rxFrame inj lqi => exact admittedHandles_frameReceived h inj lqi _
  | energySample slot => exact admittedHandles_energySampled s slot
  | ackwaitFire =>
    dsimp only [effect]
    split
    · next harmed => exact admittedHandles_retryOrGiveUp h (h.ackw_iff.1 harmed)
    · exact admittedHandles_trace s _
  | sceFire =>
    dsimp only [effect]
    split
    · split
      · exact admittedHandles_hold s _
      · exact admittedHandles_sceFired h
    · exact admittedHandles_trace s _
  | hswaitFire =>
    dsimp only [effect]
    split
    · simp [hsTimedOut]
    · exact admittedHandles_trace s _
  | cfgWrite reg => exact admittedHandles_configured s reg

/-! ### The upper layer's entries, in order -/

/-- What R149 asks of one event: the upper layer's entries that leave, in order, are those whose handles its outputs
confirm, and at most one enters or leaves. -/
def Conserves (s t : State) : Prop :=
  ∃ popped pushed new,
    t.out = s.out ++ new ∧
      upstreamEntries s.txq ++ pushed = popped ++ upstreamEntries t.txq ∧
      endedHandles new = popped.map (fun e => e.handle) ∧
      popped.length + pushed.length ≤ 1

/-- If the admitted handles are kept and at most the head has left, then what is confirmed is what left. -/
theorem conserves_of_kept {new : List Action} (hout : t.out = s.out ++ new)
    (hkept : admittedHandles t = admittedHandles s)
    (hq : upstreamEntries t.txq = upstreamEntries s.txq ∨ upstreamEntries t.txq = upstreamEntries s.txq.tail) :
    Conserves s t := by
  have hended : endedHandles new ++ queuedHandles t.txq = queuedHandles s.txq := by
    simpa [admittedHandles, hout, endedHandles_append] using hkept
  rcases hq with hsame | htail
  · refine ⟨[], [], new, hout, by simp [hsame], ?_, by simp⟩
    simpa [queuedHandles, hsame] using hended
  · have hsplit := upstreamEntries_take_append_tail s.txq
    refine ⟨upstreamEntries (s.txq.take 1), [], new, hout, by rw [htail, hsplit, List.append_nil], ?_, ?_⟩
    · rw [queuedHandles, queuedHandles, htail, ← hsplit, List.map_append] at hended
      exact List.append_cancel_right hended
    · exact (List.length_filter_le ..).trans (List.length_take_le ..)

theorem upstreamEntries_insert {e : OutFrame} (he : e.origin = .internal) (front : Bool) (q : List OutFrame) :
    upstreamEntries (if front = true then e :: q else q ++ [e]) = upstreamEntries q := by
  split <;> simp [upstreamEntries, he]

/-- Of the cases of `LastingStep` only that of SUBMIT brings an entry of the upper layer. -/
theorem upstreamEntries_of_lastingStep {i : Instr} {l : Lasting} (h : LastingStep s i l)
    (hi : isSubmission i = false) :
    upstreamEntries l.txq = upstreamEntries s.txq ∨ upstreamEntries l.txq = upstreamEntries s.txq.tail := by
  cases h with
  | same => exact .inl rfl
  | popped => exact .inr rfl
  | submitted => cases hi
  | emitted e _ horigin =>
    rw [upstreamEntries_insert horigin]
    rcases lasts_of_ite (lasting_waitLeft s) with hleft | hleft
    · exact .inl (congrArg (fun l => upstreamEntries l.txq) hleft)
    · exact .inr (congrArg (fun l => upstreamEntries l.txq) hleft)
  | configured reg _ _ _ htxq => exact .inl (congrArg upstreamEntries htxq)

/-- R79 (c), by O13: an event's own outputs are the end of the list. -/
theorem effect_out (hf : s.fault = false) (i : Instr) : ∃ new, (effect i s).out = s.out ++ new := by
  have hempty : exec i { s with out := [] } = .next (effect i { s with out := [] }) := exec_eq_next.2 ⟨hf, rfl⟩
  obtain ⟨_, heq⟩ := exec_eq_next.1 (outputsAreAppendedAndNeverRead i s _ hempty)
  exact ⟨_, congrArg State.out heq⟩

/-! ### SUBMIT -/

theorem conserves_trace (s : State) (event : TraceEvent) : Conserves s (trace event s) :=
  ⟨[], [], [.trace event], rfl, by simp, rfl, by simp⟩

theorem conserves_rejectSubmission (s : State) (handle : Handle) {status : Status}
    (h : endsSubmission status = false) : Conserves s (rejectSubmission handle status s) :=
  ⟨[], [], [.confirm handle status, .trace (.reject handle status)], by simp [rejectSubmission],
    by simp [rejectSubmission], by simp [endedHandles, endedHandle, h], by simp⟩

theorem endsSubmission_of_submitVerdict {tag : Tag} {txopt : TxOpt} {srcMode dstMode : AddrMode} {low : BitVec 10}
    {status : Status} (h : submitVerdict tag txopt srcMode dstMode low s = some status) :
    endsSubmission status = false := by
  unfold submitVerdict at h
  split at h
  · cases h; rfl
  · split at h
    · cases h; rfl
    · split at h
      · cases h; rfl
      · cases h

theorem conserves_enqueueSubmission (s : State) (handle : Handle) (tag : Tag) (p : SubmitParams) :
    Conserves s (enqueueSubmission handle tag p s) := by
  have hpushed (e : OutFrame) (he : e.origin = .upstream) :
      upstreamEntries s.txq ++ [e] = upstreamEntries (s.txq ++ [e]) := by
    rw [upstreamEntries_append, upstreamEntries_singleton he]
  unfold enqueueSubmission
  rcases checkQueue_cases _ with ⟨_, _, _, _, heq⟩ | ⟨_, heq⟩ <;> rw [heq]
  · exact ⟨[], [_], [.trace (.enq handle), .arbStart, .trace (.arbStart _)], List.append_assoc .., hpushed _ rfl, rfl,
      le_refl 1⟩
  · exact ⟨[], [_], [.trace (.enq handle)], rfl, hpushed _ rfl, rfl, le_refl 1⟩

theorem conserves_submitted (s : State) (handle : Handle) (tag : Tag) (txopt : TxOpt) (srcMode dstMode : AddrMode)
    (low : BitVec 10) : Conserves s (submitted handle tag txopt srcMode dstMode low s) := by
  unfold submitted
  split
  · next hverdict => exact conserves_rejectSubmission s handle (endsSubmission_of_submitVerdict hverdict)
  · exact conserves_enqueueSubmission s handle tag _

/-! ### Every event, every step -/

theorem conserves_refl (s : State) : Conserves s s := ⟨[], [], [], by simp, by simp, rfl, by simp⟩

theorem conserves_effect (hf : s.fault = false) (h : Invariants s) (i : Instr) : Conserves s (effect i s) := by
  cases hi : isSubmission i with
  | true =>
    cases i with
    | submit handle tag txopt srcMode dstMode low =>
      dsimp only [effect]
      split
      · exact conserves_refl s
      · exact conserves_submitted s ..
    | ccaConf | trxConf | txConf | rxFrame | energySample | ackwaitFire | sceFire | hswaitFire | cfgWrite => cases hi
  | false =>
    obtain ⟨_, hout⟩ := effect_out hf i
    exact conserves_of_kept hout (admittedHandles_effect h hi)
      (upstreamEntries_of_lastingStep (lastingStep_effect i s) hi)

/-- Settles O19: a step waits, consumes an illegal word, or runs an event; turning to an event touches neither the queue
nor the outputs. -/
theorem upstreamFramesLeaveInOrderEachConfirmedOnce : Obligations.UpstreamFramesLeaveInOrderEachConfirmedOnce := by
  intro s t hinv hstep
  obtain ⟨hf, rfl | ⟨ev, rest, rfl | ⟨i, rfl⟩⟩⟩ := step_eq_next hstep
  · exact conserves_refl _
  · exact conserves_trace (present ev rest s) _
  · exact conserves_effect (s := present ev rest s) hf (invariants_present (hinv hf) ev rest) i

end Sys2Proof.Proofs.Conservation

/-! PROOFS. SUBMIT, CFG_WRITE and the holds (O24 to O27). -/

namespace Sys2Proof.Proofs.Submission

open Sys2Proof.Machine Sys2Proof.Safety Sys2Proof.Proofs.Event

variable {s : State}

theorem exec_running (hf : s.fault = false) (i : Instr) : exec i s = .next (effect i s) := exec_eq_next.2 ⟨hf, rfl⟩

/-! ### The checks of a submission (R141 to R145) -/

/-- The parameters of a submission as the statements write them (R145, R146). -/
theorem submitParams_eq (tag : Tag) (txopt : TxOpt) (srcMode dstMode : AddrMode) (s : State) :
    submitParams tag txopt srcMode dstMode s =
      { srcMode := srcMode, dstMode := dstMode, dstPan := s.mailbox.dstPan, dstAddr := s.mailbox.dstAddr,
        ackEff := txopt.ack && !decide (dstMode = .short ∧ s.mailbox.dstAddr.setWidth 16 = s.cfg.bcastShort),
        src := { short := s.shortAddr, ext := s.extAddrHi ++ s.extAddrLo, pan := s.panId },
        metadata := { tag := tag, duration := s.mailbox.duration, group := s.mailbox.group } } := by
  rw [BitVec.setWidth_eq_extractLsb' (by decide)]
  rfl

variable {handle : Handle} {tag : Tag} {txopt : TxOpt} {srcMode dstMode : AddrMode} {low : BitVec 10}

/-- R140: with room in the queue a SUBMIT is not held. -/
theorem exec_submit (hf : s.fault = false) (hroom : s.cfg.txqDepth ≠ some s.txq.length) :
    exec (.submit handle tag txopt srcMode dstMode low) s =
      .next (submitted handle tag txopt srcMode dstMode low s) := by
  rw [exec_running hf]
  simp [effect, isHeld, queueFull, hroom]

theorem submitted_of_verdict_some {status : Status}
    (h : submitVerdict tag txopt srcMode dstMode low s = some status) :
    submitted handle tag txopt srcMode dstMode low s =
      emitted [.confirm handle status, .trace (.reject handle status)] s := by
  simp [submitted, h, rejectSubmission, emit, trace, emitted]

theorem submitted_of_verdict_none (h : submitVerdict tag txopt srcMode dstMode low s = none) :
    submitted handle tag txopt srcMode dstMode low s =
      enqueueSubmission handle tag (submitParams tag txopt srcMode dstMode s) s := by
  simp [submitted, h]

/-- Settles O24: each of the three cases decides the verdict, and the rejection emits its two actions. -/
theorem malformedSubmissionIsRejectedAtOnce : Obligations.MalformedSubmissionIsRejectedAtOnce := by
  intro s handle tag txopt srcMode dstMode low hf hroom params tooLong badAddress badOption status hcheck
  have hparams : submitParams tag txopt srcMode dstMode s = params := submitParams_eq ..
  have hlong : frameTooLong params s = true ↔ tooLong := decide_eq_true_iff
  have haddress : invalidAddress srcMode dstMode = true ↔ badAddress := decide_eq_true_iff
  have hoption : invalidParameter tag txopt low = true ↔ badOption := decide_eq_true_iff
  have hverdict : submitVerdict tag txopt srcMode dstMode low s = some status := by
    unfold submitVerdict
    rw [hparams]
    rcases hcheck with ⟨hl, rfl⟩ | ⟨hl, ha, rfl⟩ | ⟨hl, ha, ho, rfl⟩
    · rw [if_pos (hlong.2 hl)]
    · rw [if_neg (hl ∘ hlong.1), if_pos (haddress.2 ha)]
    · rw [if_neg (hl ∘ hlong.1), if_neg (ha ∘ haddress.1), if_pos (hoption.2 ho)]
  rw [exec_submit hf hroom, submitted_of_verdict_some hverdict]

/-! ### The admitted submission (R146, R147) -/

/-- R27: the count stays at its largest value. -/
theorem saturatingNext_eq (n : BitVec 16) : saturatingNext n = if n = 0xFFFF#16 then 0xFFFF#16 else n + 1#16 := by
  unfold saturatingNext
  split
  · next h => exact h
  · rfl

theorem checkQueue_eq_queueChecked (s : State) : checkQueue s = queueChecked s := by
  unfold checkQueue queueChecked
  split
  · simp [emit, trace, saturatingNext_eq]
  · rfl

theorem enqueueSubmission_eq (handle : Handle) (tag : Tag) (p : SubmitParams) (s : State) :
    enqueueSubmission handle tag p s =
      queueChecked
        { emitted [.trace (.enq handle)] s with
          dsn := s.dsn + 1#8
          txq := s.txq ++
            [{ frame := Codec.serialize p s.dsn s.mailbox.payload, handle := handle, tag := tag, ackreq := p.ackEff,
               seq := s.dsn, origin := .upstream }] } := by
  rw [enqueueSubmission, checkQueue_eq_queueChecked]
  rfl

/-- Settles O25: no check fails, and what is queued and started is written out. -/
theorem admittedSubmissionIsQueued : Obligations.AdmittedSubmissionIsQueued := by
  intro s handle tag txopt srcMode dstMode hf hroom hgts hindirect hack hunused huntagged hsrc hdst hmode params hlen
    entry
  have hparams : submitParams tag txopt srcMode dstMode s = params := submitParams_eq ..
  have hlong : frameTooLong params s = false := decide_eq_false (Nat.not_lt.2 hlen)
  have haddress : invalidAddress srcMode dstMode = false := by
    simpa [invalidAddress, hsrc, hdst, imp_iff_not_or] using hmode
  have hoption : invalidParameter tag txopt 0#10 = false := by
    simp [invalidParameter, hgts, hindirect, hack, hunused, huntagged]
  have hverdict : submitVerdict tag txopt srcMode dstMode 0#10 s = none := by
    simp [submitVerdict, hparams, hlong, haddress, hoption]
  rw [exec_submit hf hroom, submitted_of_verdict_none hverdict, hparams, enqueueSubmission_eq]

/-! ### The holds (R140, R245) -/

/-- A held event is put back among the presented ones. -/
theorem effect_of_isHeld {i : Instr} (h : isHeld i s = true) : effect i s = hold i s := by
  cases i with
  | submit => exact if_pos h
  | sceFire =>
    have hpending : s.sce.pending = true := (of_decide_eq_true h).1
    rw [effect, if_pos hpending, if_pos h]
  | ccaConf | trxConf | txConf | rxFrame | energySample | ackwaitFire | hswaitFire | cfgWrite => cases h

/-- Settles O26: both events are held, and a hold only reorders what is presented. -/
theorem heldEventStaysPresented : Obligations.HeldEventStaysPresented := by
  intro i s hf hcase
  have hheld : isHeld i s = true := by
    rcases hcase with ⟨hsource, hnotCfg, hfull⟩ | ⟨rfl, hpending, hms⟩
    · cases i with
      | submit => exact decide_eq_true hfull
      | cfgWrite reg => exact absurd rfl (hnotCfg reg)
      | ccaConf | trxConf | txConf | rxFrame | energySample | ackwaitFire | sceFire | hswaitFire => cases hsource
    · exact decide_eq_true ⟨hpending, hms⟩
  obtain ⟨heq, hperm⟩ := hold_spec i s
  exact ⟨(hold i s).pending, by rw [exec_running hf, effect_of_isHeld hheld, ← heq], hperm⟩

/-! ### CFG_WRITE (R150) -/

/-- R99, R150: a reserved index is a bad event. -/
theorem configured_reserved {reg : BitVec 4} (h : 5#4 ≤ reg) (s : State) :
    configured reg s = badEvent (encode (.cfgWrite reg)) s := by
  have hreg : 5 ≤ reg.toNat := h
  unfold configured
  split
  case h_6 => rfl
  all_goals omega

/-- Settles O27: an index of a register is one arm of `configured`, and the others are reserved. -/
theorem cfgWriteWritesOneRegister : Obligations.CfgWriteWritesOneRegister := by
  intro s reg hf
  rw [exec_running hf, effect]
  refine ⟨?_, ?_, ?_, ?_, ?_, fun h => ?_⟩
  · rintro rfl
    rw [BitVec.setWidth_eq_extractLsb' (by decide)]; rfl
  · rintro rfl
    rw [BitVec.setWidth_eq_extractLsb' (by decide)]; rfl
  · rintro rfl; rfl
  · rintro rfl; rfl
  · rintro rfl; rfl
  · rw [configured_reserved h]; rfl

end Sys2Proof.Proofs.Submission

/-! PROOFS. CCA_CONF, TRX_CONF and TX_CONF (O28 to O36). A statement writes the effect of a shared procedure out as a
record; here the procedures are those records, and each event is the composition of them. -/

namespace Sys2Proof.Proofs.Channel

open Sys2Proof.Machine Sys2Proof.Safety Sys2Proof.Proofs.Event
open Sys2Proof.Proofs.Submission (exec_running saturatingNext_eq)

variable {s : State} {e : OutFrame} {rest : List OutFrame} {code : BitVec 3}

/-! ### The procedures and their written-out records -/

/-- R131. -/
theorem enterSending_eq_sendingEntered (e : OutFrame) (inQueue : Bool) (s : State) :
    enterSending e inQueue s = sendingEntered e inQueue s := enterSending_eq e inQueue s

/-- R120, R121. -/
theorem enterIdle_eq_idleEntered (s : State) : enterIdle s = idleEntered s := by
  rcases enterIdle_cases s with ⟨hq, hslot, hsce, heq⟩ | ⟨hquiet, heq⟩
  · rw [heq, saturatingNext_eq]
    exact (if_pos ⟨hq, hslot, hsce⟩).symm
  · rw [heq]
    exact (if_neg hquiet).symm

/-- R122, of a queued head. -/
theorem confirmHead_eq (hq : s.txq = e :: rest) (status : Status) :
    confirmHead status s = emitted (confirmed e status) s := by
  have hhead : queueHead s = e := queueHead_cons hq
  rcases confirmHead_cases status s with ⟨horigin, heq⟩ | ⟨horigin, heq⟩ <;> rw [heq] <;> rw [hhead] at horigin
  · rw [hhead, confirmed, if_pos horigin, emitted]
  · rw [confirmed, if_neg horigin, emitted, List.append_nil]

/-- R123, of a queued head. -/
theorem removeHead_eq (hq : s.txq = e :: rest) : removeHead s = headReleased e rest s := by
  have hhead : queueHead s = e := queueHead_cons hq
  rcases removeHead_cases s with ⟨horigin, heq⟩ | ⟨horigin, heq⟩ <;> rw [heq] <;> rw [hhead] at horigin <;>
    simp [headReleased, hq, horigin]

/-- R168, R169: a transmitted frame that is still queued is confirmed and popped. -/
theorem removeHead_confirmHead (hq : s.txq = e :: rest) (status : Status) :
    removeHead (confirmHead status s) = emitted (confirmed e status) (headReleased e rest s) := by
  have hpop := removeHead_eq (s := emitted (confirmed e status) s) hq
  rw [confirmHead_eq hq, hpop]
  rfl

/-- R274. -/
theorem fatal_eq_fatalEntered (reason : FatalReason) (code : BitVec 3) (s : State) :
    fatal reason code s = fatalEntered reason code s := by
  rw [fatal_eq, fatalEntered, List.append_assoc]

/-! ### CCA_CONF (R160 to R162) -/

theorem ccaConfirmed_idle (hms : s.ms = .channelAccess) : ccaConfirmed 0#3 s = channelIdle s := if_pos hms

theorem ccaConfirmed_failure (hms : s.ms = .channelAccess) : ccaConfirmed 1#3 s = channelAccessFailed s := if_pos hms

/-- Settles O28: R160 is R131 on the head of the queue. -/
theorem channelIdleLoadsTheHeadFrame : Obligations.ChannelIdleLoadsTheHeadFrame := by
  intro s e rest hf hms hq
  rw [exec_running hf, effect, ccaConfirmed_idle hms, channelIdle, queueHead_cons hq, enterSending_eq_sendingEntered]

/-- R161, of a queued head. -/
theorem channelAccessFailed_eq (hq : s.txq = e :: rest) :
    channelAccessFailed s =
      idleEntered (emitted (confirmed e .channelAccessFailure ++ [.trace (.ccaFailDrop e.handle)])
        (headReleased e rest { s with arbRun := false })) := by
  have hconfirm := confirmHead_eq (s := { s with arbRun := false }) hq .channelAccessFailure
  have hpop := removeHead_eq (s := trace (.ccaFailDrop e.handle)
    (emitted (confirmed e .channelAccessFailure) { s with arbRun := false })) hq
  rw [channelAccessFailed, hconfirm, queueHead_cons hq, hpop, enterIdle_eq_idleEntered]
  simp [emitted, trace, emit, headReleased]

/-- Settles O29: the head is confirmed, traced and popped, and `EnterIdle` follows. -/
theorem channelAccessFailureDropsTheHeadFrame : Obligations.ChannelAccessFailureDropsTheHeadFrame := by
  intro s e rest hf hms hq
  rw [exec_running hf, effect, ccaConfirmed_failure hms, channelAccessFailed_eq hq]

/-- Settles O30: both legal codes fail the test of `MS`, and the event's opcode is 0x2. -/
theorem staleChannelResultIsOnlyTraced : Obligations.StaleChannelResultIsOnlyTraced := by
  intro s code hf hms hcode
  have hstale : ccaConfirmed code s = trace (.staleEvent (opcodeOf (.ccaConf code))) s := by
    rcases hcode with rfl | rfl <;> exact if_neg hms
  have hopcode : opcodeOf (.ccaConf code) = 0x2#4 := Laws.OpcodeOfEncoding.ccaConf code
  rw [exec_running hf, effect, hstale, hopcode]
  rfl

/-! ### TRX_CONF (R163, R164) -/

/-- R163: the model's table, read by the code of the confirmation. -/
theorem trxAcceptable_iff (ms : MacState) (code : BitVec 3) :
    (TrxConfirmation.ofCode code).any (trxAcceptable ms) = true ↔
      (ms = .sending ∧ (code = 2#3 ∨ code = 3#3)) ∨
        (ms = .idle ∧ (code = 0#3 ∨ code = 1#3 ∨ code = 3#3)) ∨
        ((ms = .channelAccess ∨ ms = .ackPending ∨ ms = .cfePending ∨ ms = .cfeAckPending ∨
          ms = .energyPending) ∧ (code = 1#3 ∨ code = 3#3)) := by
  revert code
  cases ms <;> decide

/-- R93: a legal code names a confirmation. -/
theorem exists_trxConfirmation (hcode : code < 4#3) : ∃ conf, TrxConfirmation.ofCode code = some conf := by
  refine Option.isSome_iff_exists.1 ?_
  revert code
  decide

/-- A legal TRX_CONF is fatal when the table does not hold it; else it acts in `Sending` only. -/
theorem trxConfirmed_eq (hcode : code < 4#3) :
    trxConfirmed code s =
      if (TrxConfirmation.ofCode code).any (trxAcceptable s.ms) then
        if s.ms = .sending then issueTransmit s else s
      else fatal .trxState code s := by
  obtain ⟨conf, hconf⟩ := exists_trxConfirmation hcode
  simp only [trxConfirmed, hconf, Option.any_some]

/-- Settles O31: the table decides between the fatal entry and, outside `Sending`, no change. -/
theorem transceiverConfirmationTable : Obligations.TransceiverConfirmationTable := by
  intro s code hf hcode acceptable
  have htable : (TrxConfirmation.ofCode code).any (trxAcceptable s.ms) = true ↔ acceptable := trxAcceptable_iff s.ms code
  rw [exec_running hf, effect, trxConfirmed_eq hcode]
  constructor
  · intro hbad
    rw [if_neg (hbad ∘ htable.1), fatal_eq_fatalEntered]
  · intro hgood hms
    rw [if_pos (htable.2 hgood), if_neg hms]

/-- R164. -/
theorem issueTransmit_eq (s : State) :
    issueTransmit s = if s.txIssued = false then emitted [.txRequest s.iff.frame] { s with txIssued := true } else s := by
  unfold issueTransmit
  cases s.txIssued <;> rfl

/-- Settles O32: both codes are acceptable in `Sending`. -/
theorem transmissionIsRequestedOnce : Obligations.TransmissionIsRequestedOnce := by
  intro s code hf hms hcode
  have hlegal : code < 4#3 := by rcases hcode with rfl | rfl <;> decide
  rw [exec_running hf, effect, trxConfirmed_eq hlegal, if_pos ((trxAcceptable_iff s.ms code).2 (.inl ⟨hms, hcode⟩)),
    if_pos hms, issueTransmit_eq]

/-! ### TX_CONF (R165 to R170) -/

/-- Settles O33: each of the three alternatives contradicts the consistent case. -/
theorem inconsistentTransmitConfirmationIsFatal : Obligations.InconsistentTransmitConfirmationIsFatal := by
  intro s code hf hcase
  have hnot : ¬(s.ms = .sending ∧ s.txIssued = true ∧ code = 0#3) := by
    rintro ⟨hms, hissued, hsuccess⟩
    rcases hcase with hms' | hissued' | hsuccess'
    · exact hms' hms
    · simp [hissued] at hissued'
    · exact hsuccess' hsuccess
  rw [exec_running hf, effect, txConfirmed, if_neg hnot, fatal_eq_fatalEntered]

/-- R165: a consistent TX_CONF branches by the tag of the transmitted frame. -/
theorem exec_txConf_success (hf : s.fault = false) (hms : s.ms = .sending) (hissued : s.txIssued = true) :
    exec (.txConf 0#3) s = .next (transmitted s) := by
  rw [exec_running hf, effect, txConfirmed, if_pos ⟨hms, hissued, rfl⟩]

/-- R170: the sum of the four terms, where it fits. -/
theorem ackWaitDuration_toNat {c : Config} (h : c.tUnitBackoff + c.tTurnaround + c.tPreamble + c.tSixOctets < 2 ^ 32) :
    (ackWaitDuration c).toNat = c.tUnitBackoff + c.tTurnaround + c.tPreamble + c.tSixOctets := by
  rw [ackWaitDuration, if_pos h, BitVec.toNat_ofNat, Nat.mod_eq_of_lt h]

/-- Settles O34, with the model's own duration. -/
theorem ackRequestedDataAwaitsItsAck : Obligations.AckRequestedDataAwaitsItsAck := by
  intro s hf hms hissued htag hack
  refine ⟨ackWaitDuration s.cfg, ?_, ackWaitDuration_toNat⟩
  rw [exec_txConf_success hf hms hissued]
  simp [transmitted, htag, hack, awaitAck, emitted, trace, emit]

/-- R129, written out. -/
theorem hswArm_eq (s : State) :
    hswArm s = { s with hsw := if s.cfg.hsTimeoutEn = true then { armed := true } else s.hsw } := by
  rcases hswArm_cases s with ⟨hen, heq⟩ | ⟨hen, heq⟩ <;> rw [heq]
  · rw [if_pos hen]
  · rw [if_neg (by simp [hen])]

/-- R168, written out. -/
theorem awaitHandshake_eq (next : MacState) (hq : s.iff.inQueue = true → s.txq = e :: rest) :
    awaitHandshake next s =
      { (if s.iff.inQueue = true then headReleased e rest s else s) with
        ms := next
        iff := { s.iff with inQueue := false }
        hsw := if s.cfg.hsTimeoutEn = true then { armed := true } else s.hsw
        out := s.out ++ ((if s.iff.inQueue = true then confirmed e .success else []) ++ [.trxRequest .rxOn]) } := by
  cases hqueued : s.iff.inQueue with
  | true => simp [awaitHandshake, hqueued, removeHead_confirmHead (hq hqueued), hswArm_eq, emit, emitted, headReleased]
  | false =>
    have hslot : s.iff = { s.iff with inQueue := false } := by rw [← hqueued]
    simp [awaitHandshake, hqueued, hswArm_eq, emit, ← hslot]

/-- R168: the state in which each tag waits. -/
theorem transmitted_of_handshake {next : MacState}
    (h : (s.iff.tag = .rfe ∧ next = .cfePending) ∨ (s.iff.tag = .cfe ∧ next = .cfeAckPending) ∨
      (s.iff.tag = .cfeAck ∧ next = .energyPending)) :
    transmitted s = awaitHandshake next (trace (.txDone s.iff.tag s.iff.seq) s) := by
  rcases h with ⟨htag, rfl⟩ | ⟨htag, rfl⟩ | ⟨htag, rfl⟩ <;> simp only [transmitted, htag]

/-- Settles O35: the trace of R166, and then R168. -/
theorem handshakeFrameAwaitsItsReply : Obligations.HandshakeFrameAwaitsItsReply := by
  intro s e rest next hf hms hissued hq htag t
  have heq := awaitHandshake_eq (s := trace (.txDone s.iff.tag s.iff.seq) s) next hq
  rw [exec_txConf_success hf hms hissued, transmitted_of_handshake htag, heq]
  cases hqueued : s.iff.inQueue <;> simp [t, hqueued, headReleased] <;> rfl

/-- R169, written out. -/
theorem transmissionDone_eq (hq : s.iff.inQueue = true → s.txq = e :: rest) :
    transmissionDone s =
      let t := if s.iff.inQueue = true then emitted (confirmed e .success) (headReleased e rest s) else s
      idleEntered (slotCleared (if s.iff.tag = .energy then contextCleared t else t)) := by
  have hpopped :
      (if s.iff.inQueue then s |> confirmHead .success |> removeHead else s) =
        if s.iff.inQueue = true then emitted (confirmed e .success) (headReleased e rest s) else s :=
    if_ctx_congr Iff.rfl (fun hqueued => removeHead_confirmHead (hq hqueued) .success) fun _ => rfl
  rw [transmissionDone, hpopped]
  exact enterIdle_eq_idleEntered _

/-- R166: the tags whose transmission asks for no reply. -/
theorem transmitted_of_finished (hrfe : s.iff.tag ≠ .rfe) (hcfe : s.iff.tag ≠ .cfe) (hcfeAck : s.iff.tag ≠ .cfeAck)
    (hdata : s.iff.tag = .data → s.iff.ackreq = false) :
    transmitted s = transmissionDone (trace (.txDone s.iff.tag s.iff.seq) s) := by
  cases htag : s.iff.tag with
  | data => simp [transmitted, htag, hdata htag]
  | energy | ack | unused | untagged => simp only [transmitted, htag]
  | rfe => exact absurd htag hrfe
  | cfe => exact absurd htag hcfe
  | cfeAck => exact absurd htag hcfeAck

/-- Settles O36: the trace of R166, and then R169. -/
theorem finishedTransmissionReturnsToIdle : Obligations.FinishedTransmissionReturnsToIdle := by
  intro s e rest hf hms hissued hq hrfe hcfe hcfeAck hdata done t
  have hdone : done = trace (.txDone s.iff.tag s.iff.seq) s := rfl
  rw [exec_txConf_success hf hms hissued, transmitted_of_finished hrfe hcfe hcfeAck hdata, ← hdone,
    transmissionDone_eq (s := done) hq]
  rfl

end Sys2Proof.Proofs.Channel

/-! PROOFS. RX_FRAME: the front end, the filter, and the frames that leave the state alone (O37, O39, O46, O47). The
model's checks are the statements' readings of the same rules; a frame is then dropped, rejected or dispatched. -/

namespace Sys2Proof.Proofs.Receive

open Sys2Proof.Machine Sys2Proof.Safety Sys2Proof.Proofs.Event
open Sys2Proof.Proofs.Submission (exec_running)

variable {s : State} {inj : Bool} {lqi : Lqi}

/-! ### The filter's steps (R186 to R192) -/

section Steps

variable (h : Header) (s : State)

@[simp] theorem failsStep1_iff : failsStep1 h s = true ↔ ¬passesStep1 h s := by
  cases htype : h.ftype <;> simp [failsStep1, passesStep1, reservedType, htype]

@[simp] theorem failsStep2_iff : failsStep2 h s = true ↔ ¬passesStep2 h s := by
  simp [failsStep2, passesStep2]

@[simp] theorem failsStep3_iff : failsStep3 h s = true ↔ ¬passesStep3 h s := by
  simp [failsStep3, passesStep3, BitVec.setWidth_eq_extractLsb']

@[simp] theorem failsStep4_iff : failsStep4 h s = true ↔ ¬passesStep4 h s := by
  refine decide_eq_true_iff.trans ?_
  simp [passesStep4, State.extAddr]

@[simp] theorem failsStep5_iff : failsStep5 h s = true ↔ ¬passesStep5 h s := by
  simp [failsStep5, passesStep5]

theorem hasAddress_iff (mode : AddrMode) : hasAddress mode = true ↔ mode = .short ∨ mode = .extended := by
  cases mode <;> simp [hasAddress]

@[simp] theorem failsStep6_iff : failsStep6 h s = true ↔ ¬passesStep6 h s := by
  simp [failsStep6, passesStep6, hasAddress_iff]

/-- R192: no step that is asked fails exactly when the frame is accepted. -/
theorem filterVerdict_eq_none_iff : filterVerdict h s = none ↔ accepted h s := by
  by_cases hfirst : passesStep1 h s
  · cases hpromisc : s.promisc with
    | true => simp [filterVerdict, accepted, hfirst, hpromisc]
    | false => simp [filterVerdict, accepted, hfirst, hpromisc, ite_eq_iff]
  · simp [filterVerdict, accepted, hfirst]

end Steps

/-! ### Readings of the frame (R194) -/

theorem isHandshake_iff (tag : Tag) : isHandshake tag = true ↔ handshakeTag tag := by
  cases tag <;> simp [isHandshake, handshakeTag]

/-- R194: owed is asked for and not broadcast. -/
theorem ackOwed_iff (h : Header) (s : State) : ackOwed h s = true ↔ h.ackreq = true ∧ ¬broadcastFrame h s := by
  simp [ackOwed, destinationIsBroadcast, broadcastFrame, BitVec.setWidth_eq_extractLsb', imp_iff_not_or]

theorem ackOwed_eq_false_iff (h : Header) (s : State) :
    ackOwed h s = false ↔ h.ackreq = false ∨ broadcastFrame h s := by
  rw [← Bool.not_eq_true, ackOwed_iff, not_and_or, not_not, Bool.not_eq_true]

/-! ### The front end and the filter (R181 to R193) -/

@[simp] theorem emitted_emitted (acts more : List Action) (s : State) :
    emitted more (emitted acts s) = emitted (acts ++ more) s := by
  simp [emitted]

@[simp] theorem ackOwed_emitted (h : Header) (acts : List Action) (s : State) :
    ackOwed h (emitted acts s) = ackOwed h s := rfl

theorem trace_eq_emitted (event : TraceEvent) (s : State) : trace event s = emitted [.trace event] s := rfl

/-- R184. -/
theorem sniffed_eq_emitted (f : Frame) (s : State) : sniffed f s = emitted (sniffs f s) s := by
  cases hpromisc : s.promisc <;> simp [sniffed, sniffs, hpromisc, emitted, emit]

/-- R181. -/
theorem frameReceived_of_badFcs {f : Frame} (hfcs : f.fcsOk = false) :
    frameReceived inj lqi f s = emitted [.trace .rxFcsDrop] s := by
  simp [frameReceived, hfcs, trace_eq_emitted]

/-- R182. -/
theorem frameReceived_of_injected {f : Frame} (hfcs : f.fcsOk = true) (hdrop : s.cfg.dropEn = true) (hinj : inj = true)
    (happlies : (f.header, f.metadata) ∈ s.cfg.injOn) :
    frameReceived inj lqi f s = emitted [.trace .rxInjDrop] s := by
  simp [frameReceived, hfcs, hdrop, hinj, injApplies, happlies, trace_eq_emitted]

/-- A frame that does not reach the filter is dropped by the front end, with one trace. -/
theorem frameReceived_of_not_reachesFilter (h : ¬reachesFilter inj s) :
    ∃ drop, (drop = .rxFcsDrop ∨ drop = .rxInjDrop) ∧
      frameReceived inj lqi s.mailbox.frame s = emitted [.trace drop] s := by
  cases hfcs : s.mailbox.frame.fcsOk with
  | false => exact ⟨_, .inl rfl, frameReceived_of_badFcs hfcs⟩
  | true =>
    obtain ⟨hdrop, hinj, happlies⟩ := not_not.1 (not_and.1 h hfcs)
    exact ⟨_, .inr rfl, frameReceived_of_injected hfcs hdrop hinj happlies⟩

theorem not_injected_of_reachesFilter (h : reachesFilter inj s) :
    ¬(s.cfg.dropEn && inj && injApplies s.cfg s.mailbox.frame.header s.mailbox.frame.metadata) = true := by
  simpa [injApplies, and_assoc] using h.2

/-- R192: the first failing step drops the frame, which the sniffers have seen. -/
theorem frameReceived_of_rejected (h : reachesFilter inj s) {step : Nat}
    (hverdict : filterVerdict s.mailbox.frame.header s = some step) :
    frameReceived inj lqi s.mailbox.frame s =
      emitted (sniffs s.mailbox.frame s ++ [.trace (.rxFilterDrop step)]) s := by
  rw [frameReceived, if_pos h.1, if_neg (not_injected_of_reachesFilter h), ← emitted_emitted, ← sniffed_eq_emitted]
  simp only [hverdict, trace_eq_emitted]

/-- R193: an accepted frame is dispatched, after the sniffs. -/
theorem frameReceived_of_accepted (h : reachesFilter inj s) (hacc : accepted s.mailbox.frame.header s) :
    frameReceived inj lqi s.mailbox.frame s =
      dispatchFrame s.mailbox.frame.header s.mailbox.frame.metadata lqi s.mailbox.frame
        (emitted (sniffs s.mailbox.frame s) s) := by
  rw [frameReceived, if_pos h.1, if_neg (not_injected_of_reachesFilter h), ← sniffed_eq_emitted]
  simp only [(filterVerdict_eq_none_iff _ _).2 hacc]

/-- A received frame is dropped by the front end, rejected by the filter, or dispatched. -/
theorem frameReceived_cases (inj : Bool) (lqi : Lqi) (s : State) :
    (¬reachesFilter inj s ∧ ∃ drop, (drop = .rxFcsDrop ∨ drop = .rxInjDrop) ∧
      frameReceived inj lqi s.mailbox.frame s = emitted [.trace drop] s) ∨
    (reachesFilter inj s ∧ ¬accepted s.mailbox.frame.header s ∧ ∃ step,
      frameReceived inj lqi s.mailbox.frame s =
        emitted (sniffs s.mailbox.frame s ++ [.trace (.rxFilterDrop step)]) s) ∨
    (reachesFilter inj s ∧ accepted s.mailbox.frame.header s ∧
      frameReceived inj lqi s.mailbox.frame s =
        dispatchFrame s.mailbox.frame.header s.mailbox.frame.metadata lqi s.mailbox.frame
          (emitted (sniffs s.mailbox.frame s) s)) := by
  by_cases hreach : reachesFilter inj s
  · cases hverdict : filterVerdict s.mailbox.frame.header s with
    | none =>
      have hacc := (filterVerdict_eq_none_iff _ _).1 hverdict
      exact .inr (.inr ⟨hreach, hacc, frameReceived_of_accepted hreach hacc⟩)
    | some step =>
      have hrejected : ¬accepted s.mailbox.frame.header s := by simp [← filterVerdict_eq_none_iff, hverdict]
      exact .inr (.inl ⟨hreach, hrejected, step, frameReceived_of_rejected hreach hverdict⟩)
  · exact .inl ⟨hreach, frameReceived_of_not_reachesFilter hreach⟩

theorem exec_rxFrame_of_accepted (hf : s.fault = false) (h : reachesFilter inj s)
    (hacc : accepted s.mailbox.frame.header s) :
    exec (.rxFrame inj lqi) s =
      .next (dispatchFrame s.mailbox.frame.header s.mailbox.frame.metadata lqi s.mailbox.frame
        (emitted (sniffs s.mailbox.frame s) s)) := by
  rw [exec_running hf, effect, frameReceived_of_accepted h hacc]

/-- Settles O37: each of the two drops is the front end's one trace. -/
theorem damagedOrInjectedFrameIsDropped : Obligations.DamagedOrInjectedFrameIsDropped := by
  intro s inj lqi hf
  rw [exec_running hf, effect]
  constructor
  · intro hfcs
    rw [frameReceived_of_badFcs hfcs]
  · intro hfcs hdrop hinj happlies
    rw [frameReceived_of_injected hfcs hdrop hinj happlies]

/-! ### Accepted frames that change no state (R194 to R198) -/

/-- Settles O39: the dispatch of a beacon is its trace. -/
theorem acceptedBeaconIsOnlyTraced : Obligations.AcceptedBeaconIsOnlyTraced := by
  intro s inj lqi hf hreach hacc hbeacon
  rw [exec_rxFrame_of_accepted hf hreach hacc, dispatchFrame, hbeacon, ← emitted_emitted, ← trace_eq_emitted]

/-- R194, R195, R197: a data or command frame is reacted to, then indicated or traced. -/
theorem dispatchFrame_of_data_or_command {f : Frame} (h : f.header.ftype = .data ∨ f.header.ftype = .command) :
    dispatchFrame f.header f.metadata lqi f s =
      emitted (frameClosing lqi f) (reactToFrame f.header f.metadata s) := by
  rcases h with htype | htype
  · by_cases htag : f.metadata.tag = .data ∨ f.metadata.tag = .untagged <;>
      simp [dispatchFrame, htype, dataAccepted, indicate, indicationParams, frameClosing, htag, emitted, emit]
  · simp [dispatchFrame, htype, commandAccepted, indicate, frameClosing, trace_eq_emitted]

theorem exec_rxFrame_of_data_or_command (hf : s.fault = false) (hreach : reachesFilter inj s)
    (hacc : accepted s.mailbox.frame.header s)
    (htype : s.mailbox.frame.header.ftype = .data ∨ s.mailbox.frame.header.ftype = .command) :
    exec (.rxFrame inj lqi) s =
      .next (emitted (frameClosing lqi s.mailbox.frame)
        (reactToFrame s.mailbox.frame.header s.mailbox.frame.metadata (emitted (sniffs s.mailbox.frame s) s))) := by
  rw [exec_rxFrame_of_accepted hf hreach hacc, dispatchFrame_of_data_or_command htype]

/-- R198: while `Sending` a frame gives traces only. -/
theorem reactToFrame_of_sending (h : Header) (m : Metadata) (hms : s.ms = .sending) :
    reactToFrame h m s =
      emitted ((if ackOwed h s then [.trace (.ackSuppressed h.seq)] else []) ++
        if isHandshake m.tag then [.trace (.rxViolation m.tag)] else []) s := by
  rw [reactToFrame, if_pos hms, receivedWhileSending]
  cases ackOwed h s <;> cases isHandshake m.tag <;> simp [emitted, trace, emit]

/-- R194: outside `Sending` an owed acknowledgment is the only reaction. -/
theorem reactToFrame_of_owed {h : Header} (m : Metadata) (hms : s.ms ≠ .sending) (howed : ackOwed h s = true) :
    reactToFrame h m s = generateAck h.seq (if isHandshake m.tag then trace (.hsSkippedForAck m.tag) s else s) := by
  rw [reactToFrame, if_neg hms, if_pos howed]

/-- R194: with none owed, a tagged frame outside `Sending` is reacted to by its tag. -/
theorem reactToFrame_of_unowed {h : Header} (m : Metadata) (hms : s.ms ≠ .sending) (howed : ackOwed h s = false) :
    reactToFrame h m s = if isHandshake m.tag then hsReact h m s else s := by
  rw [reactToFrame, if_neg hms, if_neg (Bool.eq_false_iff.1 howed)]

/-- R194: with no acknowledgment owed and no handshake tag there is no reaction, in any MAC state. -/
theorem reactToFrame_of_plain {h : Header} {m : Metadata} (hack : ackOwed h s = false)
    (htag : isHandshake m.tag = false) : reactToFrame h m s = s := by
  simp [reactToFrame, receivedWhileSending, hack, htag]

/-- Settles O46: the two lists are the two traces R198 may give. -/
theorem frameWhileSendingChangesNoState : Obligations.FrameWhileSendingChangesNoState := by
  intro s inj lqi hf hreach hacc htype hms suppressed violation hsuppressed hviolation
  have hsup : (if ackOwed s.mailbox.frame.header s then [.trace (.ackSuppressed s.mailbox.frame.header.seq)] else []) =
      suppressed := by
    rcases hsuppressed with ⟨hreq, hdst, rfl⟩ | ⟨hnot, rfl⟩
    · exact if_pos ((ackOwed_iff _ _).2 ⟨hreq, hdst⟩)
    · exact if_neg (Bool.eq_false_iff.1 ((ackOwed_eq_false_iff _ _).2 hnot))
  have hvio : (if isHandshake s.mailbox.frame.metadata.tag then
      [.trace (.rxViolation s.mailbox.frame.metadata.tag)] else []) = violation := by
    rcases hviolation with ⟨htag, rfl⟩ | ⟨htag, rfl⟩
    · exact if_pos ((isHandshake_iff _).2 htag)
    · exact if_neg (htag ∘ (isHandshake_iff _).1)
  rw [exec_rxFrame_of_data_or_command hf hreach hacc htype,
    reactToFrame_of_sending (s := emitted (sniffs s.mailbox.frame s) s) _ _ hms, ackOwed_emitted, hsup, hvio]
  simp only [emitted_emitted, List.append_assoc]

/-- Settles O47: nothing stands between the sniffs and the closing actions. -/
theorem plainFrameOnlyIndicates : Obligations.PlainFrameOnlyIndicates := by
  intro s inj lqi hf hreach hacc htype hack htag
  have howed : ackOwed s.mailbox.frame.header (emitted (sniffs s.mailbox.frame s) s) = false :=
    (ackOwed_emitted ..).trans ((ackOwed_eq_false_iff _ _).2 hack)
  have hplain : isHandshake s.mailbox.frame.metadata.tag = false :=
    Bool.eq_false_iff.2 (htag ∘ (isHandshake_iff _).1)
  rw [exec_rxFrame_of_data_or_command hf hreach hacc htype, reactToFrame_of_plain howed hplain, emitted_emitted]

end Sys2Proof.Proofs.Receive

/-! PROOFS. What RX_FRAME emits of the three kinds of action the filter's statements count (O38, O40, O41): indications,
transmit-on requests and filter drops. The procedures it runs emit none of them and do not enter `Sending`, but for a
generated ACK, which asks for transmit-on, and the closing `Indication`. -/

namespace Sys2Proof.Proofs.Notable

open Sys2Proof.Machine Sys2Proof.Safety Sys2Proof.Proofs.Event Sys2Proof.Proofs.Receive
open Sys2Proof.Proofs.Submission (exec_running)

variable {s t u : State} {inj : Bool} {lqi : Lqi} {new : List Action}

/-! ### The actions counted -/

/-- An `Indication`, a transmit-on request or a filter drop. -/
def notable : Action → Bool
  | .indication _ _ => true
  | .trxRequest .txOn => true
  | .trace (.rxFilterDrop _) => true
  | _ => false

/-- The notable actions emitted so far, in order. -/
def notables (s : State) : List Action := s.out.filter notable

theorem notable_of_isIndication {a : Action} (h : isIndication a = true) : notable a = true := by
  cases a with
  | indication => rfl
  | confirm | energyIndication | trxRequest | txRequest | arbStart | arbCancel | faultReport | sniff | promiscSniff
  | trace => cases h

@[simp] theorem notables_emitted (acts : List Action) (s : State) :
    notables (emitted acts s) = notables s ++ acts.filter notable := List.filter_append ..

/-- What is added to the notable actions is what is notable of the new ones. -/
theorem filter_notable_new {added : List Action} (hnotables : notables t = notables s ++ added)
    (hout : t.out = s.out ++ new) : new.filter notable = added := by
  rw [notables, hout, List.filter_append] at hnotables
  exact List.append_cancel_left hnotables

/-! ### Quiet procedures -/

/-- From `s` to `t` nothing notable is emitted and `Sending` is not entered. -/
structure Quiet (s t : State) : Prop where
  notables : notables t = notables s
  ms : t.ms = .sending → s.ms = .sending

theorem Quiet.refl (s : State) : Quiet s s := ⟨rfl, id⟩

theorem Quiet.trans (hst : Quiet s t) (htu : Quiet t u) : Quiet s u :=
  ⟨htu.notables.trans hst.notables, hst.ms ∘ htu.ms⟩

/-- `Quiet` reads the outputs and `MS` only. -/
theorem Quiet.congr (h : Quiet s t) (hout : u.out = t.out) (hms : u.ms = t.ms) : Quiet s u :=
  ⟨(congrArg (List.filter notable) hout).trans h.notables, fun hsending => h.ms (hms ▸ hsending)⟩

/-- Actions that are not notable are emitted, and `MS` stays or leaves `Sending`. -/
theorem quiet_of_out {acts : List Action} (hout : t.out = s.out ++ acts) (hacts : acts.filter notable = [])
    (hms : t.ms = .sending → s.ms = .sending) : Quiet s t :=
  ⟨by rw [notables, hout, List.filter_append, hacts, List.append_nil, notables], hms⟩

theorem Quiet.emit (h : Quiet s t) {a : Action} (ha : notable a = false) : Quiet s (emit a t) :=
  h.trans (quiet_of_out (acts := [a]) rfl (by simp [ha]) id)

theorem Quiet.trace (h : Quiet s t) {event : TraceEvent} (hevent : notable (.trace event) = false) :
    Quiet s (trace event t) := h.emit hevent

theorem quiet_trace (s : State) {event : TraceEvent} (hevent : notable (.trace event) = false) :
    Quiet s (trace event s) := (Quiet.refl s).trace hevent

/-! ### The common procedures -/

section Procedures

variable (s : State)

theorem quiet_arbCancel : Quiet s (arbCancel s) := by
  rcases arbCancel_cases s with ⟨_, heq⟩ | ⟨_, heq⟩ <;> rw [heq]
  · exact quiet_of_out rfl rfl id
  · exact Quiet.refl s

theorem quiet_ackwCancel : Quiet s (ackwCancel s) := (Quiet.refl s).congr rfl rfl

theorem quiet_sceCancel : Quiet s (sceCancel s) := (Quiet.refl s).congr rfl rfl

theorem quiet_hswArm : Quiet s (hswArm s) := by
  obtain ⟨_, heq⟩ := hswArm_writes s
  rw [heq]
  exact (Quiet.refl s).congr rfl rfl

theorem quiet_enterIdle : Quiet s (enterIdle s) := by
  rcases enterIdle_cases s with ⟨_, _, _, heq⟩ | ⟨_, heq⟩ <;> rw [heq] <;> exact quiet_of_out rfl rfl nofun

theorem quiet_forceIdle : Quiet s (forceIdle s) := by
  rcases forceIdle_cases s with ⟨_, heq⟩ | ⟨_, heq⟩ <;> rw [heq]
  · exact Quiet.refl s
  · exact quiet_of_out rfl rfl nofun

theorem quiet_confirmHead (status : Status) : Quiet s (confirmHead status s) := by
  rcases confirmHead_cases status s with ⟨_, heq⟩ | ⟨_, heq⟩ <;> rw [heq]
  · exact quiet_of_out rfl rfl id
  · exact Quiet.refl s

theorem quiet_removeHead : Quiet s (removeHead s) := by
  obtain ⟨_, _, heq⟩ := removeHead_writes s
  rw [heq]
  exact (Quiet.refl s).congr rfl rfl

theorem quiet_prepareRetransmission : Quiet s (prepareRetransmission s) := by
  rcases prepareRetransmission_cases s with ⟨_, heq⟩ | ⟨_, _, heq⟩ | ⟨_, _, heq⟩ <;> rw [heq] <;>
    exact quiet_of_out rfl rfl id

theorem quiet_abandonCurrent : Quiet s (abandonCurrent s) := by
  by_cases hwait : isHandshakeWait s.ms = true
  · rw [abandonCurrent_wait hwait]
    exact quiet_of_out rfl (by cases s.iff.valid <;> rfl) id
  · cases hms : s.ms with
    | idle => rw [abandonCurrent_idle hms]; exact Quiet.refl s
    | channelAccess => rw [abandonCurrent_channelAccess hms]; exact quiet_arbCancel s
    | sending => rw [abandonCurrent_sending hms]; exact Quiet.refl s
    | ackPending => rw [abandonCurrent_ackPending hms]; exact quiet_prepareRetransmission s
    | cfePending | cfeAckPending | energyPending => simp [hms, isHandshakeWait] at hwait

theorem quiet_retryOrGiveUp : Quiet s (retryOrGiveUp s) :=
  (quiet_prepareRetransmission s).trans (quiet_enterIdle _)

/-! ### The reactions to a frame -/

theorem quiet_ackMatched (h : Header) : Quiet s (ackMatched h s) := by
  have hconfirmed : Quiet s (confirmHead .success (ackwCancel s)) :=
    (quiet_ackwCancel s).trans (quiet_confirmHead _ _)
  have hremoved := (hconfirmed.trace (event := .ackOk h.seq) rfl).trans (quiet_removeHead _)
  exact (hremoved.congr (u := iffClear _) rfl rfl).trans (quiet_enterIdle _)

theorem quiet_ackReceived (h : Header) : Quiet s (ackReceived h s) := by
  unfold ackReceived
  split
  · split
    · exact quiet_ackMatched s h
    · exact (quiet_trace s rfl).trans (quiet_retryOrGiveUp _)
  · exact quiet_trace s rfl

theorem quiet_donorRfe (h : Header) (m : Metadata) : Quiet s (donorRfe h m s) := by
  unfold donorRfe
  split
  · have hleft : Quiet s (abandonCurrent (sceCancel s)) :=
      (quiet_sceCancel s).trans (quiet_abandonCurrent _)
    have hscheduled : Quiet s (sceSchedule .emitCfe (groupDelay s.cfg m.group)
        (recordRequester h m (forceIdle (abandonCurrent (sceCancel s))))) :=
      (hleft.trans (quiet_forceIdle _)).congr rfl rfl
    exact hscheduled.trace rfl
  · exact quiet_trace s rfl

theorem quiet_sensorFreeze (h : Header) (m : Metadata) : Quiet s (sensorFreeze h m s) := by
  have hcancelled : Quiet s (arbCancel (sceCancel s)) := (quiet_sceCancel s).trans (quiet_arbCancel _)
  have hwaiting : Quiet s (recordRequester h m { hswCancel (arbCancel (sceCancel s)) with ms := .energyPending }) :=
    ⟨hcancelled.notables, nofun⟩
  exact (hwaiting.trans (quiet_hswArm _)).trace rfl

theorem quiet_sensorRfe (h : Header) (m : Metadata) : Quiet s (sensorRfe h m s) := by
  unfold sensorRfe
  cases s.ms with
  | idle | channelAccess | energyPending => exact quiet_sensorFreeze s h m
  | sending | ackPending | cfePending | cfeAckPending => exact quiet_trace s rfl

theorem quiet_hsReact (h : Header) (m : Metadata) : Quiet s (hsReact h m s) := by
  unfold hsReact
  cases m.tag with
  | rfe =>
    cases s.cfg.role with
    | energyDonor => exact quiet_donorRfe s h m
    | sensor => exact quiet_sensorRfe s h m
  | cfe =>
    cases s.cfg.role with
    | energyDonor => exact quiet_trace s rfl
    | sensor => exact quiet_of_out rfl rfl id
  | cfeAck =>
    dsimp only
    split
    · exact quiet_of_out rfl rfl id
    · exact quiet_trace s rfl
  | energy | data | ack | unused | untagged => exact quiet_of_out rfl rfl id

/-- R194, R198: the reaction is quiet in `Sending`, and when no acknowledgment is owed. -/
theorem quiet_reactToFrame {h : Header} (m : Metadata) (hquiet : s.ms = .sending ∨ ackOwed h s = false) :
    Quiet s (reactToFrame h m s) := by
  by_cases hms : s.ms = .sending
  · rw [reactToFrame_of_sending h m hms]
    exact quiet_of_out rfl (by cases ackOwed h s <;> cases isHandshake m.tag <;> rfl) id
  · rw [reactToFrame_of_unowed m hms (hquiet.resolve_left hms)]
    split
    · exact quiet_hsReact s h m
    · exact Quiet.refl s

end Procedures

/-! ### The notable actions of an RX_FRAME -/

/-- R215: a generated ACK asks for transmit-on, once. -/
theorem notables_generateAck (seq : SeqNo) (s : State) :
    notables (generateAck seq s) = notables s ++ [.trxRequest .txOn] := by
  have hleft : Quiet s (sceCancel (abandonCurrent s)) := (quiet_abandonCurrent s).trans (quiet_sceCancel _)
  rw [← hleft.notables, generateAck, enterSending_eq]
  exact List.filter_append ..

/-- R194, R198: the transmit-on request for an owed acknowledgment, in every state but `Sending`. -/
def ackRequest (f : Frame) (s : State) : List Action :=
  if (f.header.ftype = .data ∨ f.header.ftype = .command) ∧ s.ms ≠ .sending ∧ ackOwed f.header s = true then
    [.trxRequest .txOn]
  else []

theorem mem_ackRequest {a : Action} {f : Frame} (h : a ∈ ackRequest f s) :
    a = .trxRequest .txOn ∧ ackOwed f.header s = true := by
  unfold ackRequest at h
  split at h
  · next hack => exact ⟨List.mem_singleton.1 h, hack.2.2⟩
  · cases h

theorem notables_reactToFrame {f : Frame} (htype : f.header.ftype = .data ∨ f.header.ftype = .command) (s : State) :
    notables (reactToFrame f.header f.metadata s) = notables s ++ ackRequest f s := by
  by_cases hack : s.ms ≠ .sending ∧ ackOwed f.header s = true
  · have hrequest : ackRequest f s = [.trxRequest .txOn] := if_pos ⟨htype, hack⟩
    obtain ⟨hms, howed⟩ := hack
    rw [reactToFrame_of_owed _ hms howed, notables_generateAck, hrequest]
    split
    · rw [(quiet_trace s rfl).notables]
    · rfl
  · have hquiet : s.ms = .sending ∨ ackOwed f.header s = false := by
      simpa [imp_iff_not_or] using hack
    rw [(quiet_reactToFrame s _ hquiet).notables, ackRequest, if_neg fun h => hack h.2, List.append_nil]

/-- R196, R218 to R220: an accepted frame of another type is handled quietly. -/
theorem quiet_dispatchFrame {h : Header} (m : Metadata) (f : Frame) (htype : ¬(h.ftype = .data ∨ h.ftype = .command))
    (s : State) : Quiet s (dispatchFrame h m lqi f s) := by
  unfold dispatchFrame
  cases hcase : h.ftype with
  | ack => exact quiet_ackReceived s h
  | beacon => exact quiet_trace s rfl
  | data => exact absurd (.inl hcase) htype
  | command => exact absurd (.inr hcase) htype
  | reserved => exact Quiet.refl s

/-- R195, R197: the closing actions are one `Indication` of the frame, or hold none. -/
theorem frameClosing_cases (lqi : Lqi) (f : Frame) :
    (f.header.ftype = .data ∧ (f.metadata.tag = .data ∨ f.metadata.tag = .untagged) ∧
      ∃ params, frameClosing lqi f = [.indication params f]) ∨
    (¬(f.header.ftype = .data ∧ (f.metadata.tag = .data ∨ f.metadata.tag = .untagged)) ∧
      (frameClosing lqi f = [] ∨ frameClosing lqi f = [.trace .rxCommand])) := by
  by_cases hindicated : f.header.ftype = .data ∧ (f.metadata.tag = .data ∨ f.metadata.tag = .untagged)
  · exact .inl ⟨hindicated.1, hindicated.2, by simp [frameClosing, hindicated]⟩
  · refine .inr ⟨hindicated, ?_⟩
    rw [frameClosing, if_neg hindicated]
    split
    · exact .inr rfl
    · exact .inl rfl

theorem frameClosing_eq_of_notable {a : Action} {f : Frame} (hmem : a ∈ frameClosing lqi f) (ha : notable a = true) :
    frameClosing lqi f = [a] ∧ ∃ params, a = .indication params f := by
  rcases frameClosing_cases lqi f with ⟨_, _, params, heq⟩ | ⟨_, heq | heq⟩ <;> rw [heq] at hmem ⊢
  · rw [List.mem_singleton.1 hmem]
    exact ⟨rfl, params, rfl⟩
  · cases hmem
  · rw [List.mem_singleton.1 hmem] at ha
    cases ha

theorem exists_indication_mem_frameClosing (lqi : Lqi) (f : Frame) :
    (∃ a ∈ frameClosing lqi f, isIndication a = true) ↔
      f.header.ftype = .data ∧ (f.metadata.tag = .data ∨ f.metadata.tag = .untagged) := by
  rcases frameClosing_cases lqi f with ⟨hdata, htag, _, heq⟩ | ⟨hnone, heq | heq⟩ <;> rw [heq]
  · simp [hdata, htag, isIndication]
  · simp [hnone]
  · simp [hnone, isIndication]

/-- R193: what an accepted frame gives of the notable actions. -/
theorem notables_dispatchFrame (lqi : Lqi) (f : Frame) (s : State) :
    notables (dispatchFrame f.header f.metadata lqi f s) =
      notables s ++ (ackRequest f s ++ (frameClosing lqi f).filter notable) := by
  by_cases htype : f.header.ftype = .data ∨ f.header.ftype = .command
  · rw [dispatchFrame_of_data_or_command htype, notables_emitted, notables_reactToFrame htype, List.append_assoc]
  · have hclosing : frameClosing lqi f = [] := by
      obtain ⟨hdata, hcommand⟩ := not_or.1 htype
      simp [frameClosing, hdata, hcommand]
    rw [(quiet_dispatchFrame _ _ htype s).notables, ackRequest, if_neg fun h => htype h.1, hclosing]
    exact (List.append_nil _).symm

@[simp] theorem filter_notable_sniffs (f : Frame) (s : State) : (sniffs f s).filter notable = [] := by
  cases hpromisc : s.promisc <;> simp [sniffs, hpromisc, notable]

/-- The notable actions of an RX_FRAME, in the three cases of a received frame. -/
theorem filter_notable_rxFrame (hexec : exec (.rxFrame inj lqi) s = .next t) (hout : t.out = s.out ++ new) :
    (¬reachesFilter inj s ∧ new.filter notable = []) ∨
    (¬accepted s.mailbox.frame.header s ∧ ∃ step, new.filter notable = [.trace (.rxFilterDrop step)]) ∨
    (reachesFilter inj s ∧ accepted s.mailbox.frame.header s ∧
      new.filter notable = ackRequest s.mailbox.frame s ++ (frameClosing lqi s.mailbox.frame).filter notable) := by
  obtain ⟨_, heq⟩ := exec_eq_next.1 hexec
  have heffect : effect (.rxFrame inj lqi) s = frameReceived inj lqi s.mailbox.frame s := rfl
  rw [heffect] at heq
  rcases frameReceived_cases inj lqi s with ⟨hdropped, drop, hdrop, h⟩ | ⟨_, hrejected, step, h⟩ | ⟨hreach, hacc, h⟩ <;>
    rw [← heq, h] at hout
  · refine .inl ⟨hdropped, filter_notable_new ?_ hout⟩
    rcases hdrop with rfl | rfl <;> exact notables_emitted _ s
  · refine .inr (.inl ⟨hrejected, step, filter_notable_new ?_ hout⟩)
    rw [notables_emitted, List.filter_append, filter_notable_sniffs]
    rfl
  · refine .inr (.inr ⟨hreach, hacc, filter_notable_new ?_ hout⟩)
    rw [notables_dispatchFrame, notables_emitted, filter_notable_sniffs, List.append_nil]
    rfl

/-- R195: the indications among the new outputs are those that close an accepted frame. -/
theorem indication_mem_iff (hexec : exec (.rxFrame inj lqi) s = .next t) (hout : t.out = s.out ++ new) {a : Action}
    (ha : isIndication a = true) :
    a ∈ new ↔ reachesFilter inj s ∧ accepted s.mailbox.frame.header s ∧ a ∈ frameClosing lqi s.mailbox.frame := by
  have hnotable := notable_of_isIndication ha
  have hfilter : a ∈ new ↔ a ∈ new.filter notable := by simp [hnotable]
  rw [hfilter]
  rcases filter_notable_rxFrame hexec hout with ⟨hdropped, h⟩ | ⟨hrejected, step, h⟩ | ⟨hreach, hacc, h⟩ <;> rw [h]
  · simp [hdropped]
  · have hne : a ≠ .trace (.rxFilterDrop step) := by rintro rfl; cases ha
    simp [hrejected, hne]
  · have hne : a ∉ ackRequest s.mailbox.frame s := by
      intro hmem
      rw [(mem_ackRequest hmem).1] at ha
      cases ha
    simp [hreach, hacc, hne, hnotable]

/-- Settles O40: the new indications are those of `frameClosing`, which holds at most the one. -/
theorem onlyAcceptedUntaggedDataIsIndicated : Obligations.OnlyAcceptedUntaggedDataIsIndicated := by
  intro s t inj lqi new hexec hout f
  have hmem {a : Action} (ha : isIndication a = true) := indication_mem_iff hexec hout ha
  constructor
  · rw [← exists_indication_mem_frameClosing lqi f]
    constructor
    · rintro ⟨a, hnew, ha⟩
      obtain ⟨hreach, hacc, hclosing⟩ := (hmem ha).1 hnew
      exact ⟨hreach, hacc, a, hclosing, ha⟩
    · rintro ⟨hreach, hacc, a, hclosing, ha⟩
      exact ⟨a, (hmem ha).2 ⟨hreach, hacc, hclosing⟩, ha⟩
  · intro a hnew ha
    obtain ⟨_, _, hclosing⟩ := (hmem ha).1 hnew
    exact (frameClosing_eq_of_notable hclosing (notable_of_isIndication ha)).1.symm

/-! ### Broadcast frames -/

/-- A transmit-on request among the new outputs is for an acknowledgment that is owed. -/
theorem ackOwed_of_txOn_mem (hexec : exec (.rxFrame inj lqi) s = .next t) (hout : t.out = s.out ++ new)
    (hmem : Action.trxRequest .txOn ∈ new) : ackOwed s.mailbox.frame.header s = true := by
  have hfilter : Action.trxRequest .txOn ∈ new.filter notable := List.mem_filter.2 ⟨hmem, rfl⟩
  rcases filter_notable_rxFrame hexec hout with ⟨_, h⟩ | ⟨_, step, h⟩ | ⟨_, _, h⟩ <;> rw [h] at hfilter
  · cases hfilter
  · simp at hfilter
  · rcases List.mem_append.1 hfilter with hrequest | hclosing
    · exact (mem_ackRequest hrequest).2
    · obtain ⟨_, _, heq⟩ := frameClosing_eq_of_notable (List.mem_filter.1 hclosing).1 rfl
      cases heq

/-- R194: only an owed acknowledgment takes the block to `Sending`. -/
theorem ms_dispatchFrame {f : Frame} (howed : ackOwed f.header s = false)
    (hms : (dispatchFrame f.header f.metadata lqi f s).ms = .sending) : s.ms = .sending := by
  by_cases htype : f.header.ftype = .data ∨ f.header.ftype = .command
  · rw [dispatchFrame_of_data_or_command htype] at hms
    exact (quiet_reactToFrame s f.metadata (.inr howed)).ms hms
  · exact (quiet_dispatchFrame f.metadata f htype s).ms hms

/-- Settles O41: to the broadcast address no acknowledgment is owed. -/
theorem broadcastFrameElicitsNoAck : Obligations.BroadcastFrameElicitsNoAck := by
  intro s t inj lqi new hbroadcast hexec hout
  have howed : ackOwed s.mailbox.frame.header s = false := (ackOwed_eq_false_iff _ _).2 (.inr hbroadcast)
  constructor
  · intro hmem
    simp [ackOwed_of_txOn_mem hexec hout hmem] at howed
  · intro hms
    obtain ⟨_, rfl⟩ := exec_eq_next.1 hexec
    rw [effect] at hms
    rcases frameReceived_cases inj lqi s with ⟨_, _, _, h⟩ | ⟨_, _, _, h⟩ | ⟨_, _, h⟩ <;> rw [h] at hms
    · exact hms
    · exact hms
    · exact ms_dispatchFrame (s := emitted _ s) howed hms

/-! ### The filter's verdict -/

/-- The dispatch appends to the outputs, none of them a filter drop. -/
theorem dispatchFrame_appends (lqi : Lqi) (f : Frame) (s : State) :
    ∃ new, (dispatchFrame f.header f.metadata lqi f s).out = s.out ++ new ∧
      ∀ step, Action.trace (.rxFilterDrop step) ∉ new := by
  have hsplit : s = History.withHistory s.out { s with out := [] } := by simp [History.withHistory]
  have hout : (dispatchFrame f.header f.metadata lqi f s).out =
      s.out ++ (dispatchFrame f.header f.metadata lqi f { s with out := [] }).out := by
    conv_lhs => rw [hsplit, History.dispatchFrame_withHistory]
    rfl
  refine ⟨_, hout, fun step hmem => ?_⟩
  have hfilter : Action.trace (.rxFilterDrop step) ∈ List.filter notable _ := List.mem_filter.2 ⟨hmem, rfl⟩
  rw [filter_notable_new (notables_dispatchFrame lqi f s) hout] at hfilter
  rcases List.mem_append.1 hfilter with hrequest | hclosing
  · cases (mem_ackRequest hrequest).1
  · obtain ⟨_, _, heq⟩ := frameClosing_eq_of_notable (List.mem_filter.1 hclosing).1 rfl
    cases heq

/-- Settles O38: with the steps before it passed, a failing step is the verdict; with none failing the frame is accepted
and dispatched. -/
theorem filterRejectsAtTheFirstFailingStep : Obligations.FilterRejectsAtTheFirstFailingStep := by
  intro s inj lqi hf hreach f h rejectedAt passed
  have hrejected {step : Nat} (hverdict : filterVerdict h s = some step) : rejectedAt step := by
    dsimp only [rejectedAt]
    rw [exec_running hf, effect, frameReceived_of_rejected hreach hverdict]
  have hpassed (hacc : accepted h s) : passed := by
    obtain ⟨new, hout, hnone⟩ := dispatchFrame_appends lqi f (emitted (sniffs f s) s)
    exact ⟨_, new, exec_rxFrame_of_accepted hf hreach hacc, hout, hnone⟩
  refine ⟨fun h1 => hrejected (by simp [filterVerdict, h1]), fun hpromisc h1 => hpassed ⟨h1, .inl hpromisc⟩,
    fun hpromisc h1 => ⟨?_, ?_, ?_, ?_, ?_, ?_⟩⟩
  · exact fun h2 => hrejected (by simp [filterVerdict, hpromisc, h1, h2])
  · exact fun h2 h3 => hrejected (by simp [filterVerdict, hpromisc, h1, h2, h3])
  · exact fun h2 h3 h4 => hrejected (by simp [filterVerdict, hpromisc, h1, h2, h3, h4])
  · exact fun h2 h3 h4 h5 => hrejected (by simp [filterVerdict, hpromisc, h1, h2, h3, h4, h5])
  · exact fun h2 h3 h4 h5 h6 => hrejected (by simp [filterVerdict, hpromisc, h1, h2, h3, h4, h5, h6])
  · exact fun h2 h3 h4 h5 h6 => hpassed ⟨h1, .inr ⟨h2, h3, h4, h5, h6⟩⟩

end Sys2Proof.Proofs.Notable

/-! PROOFS. Acknowledgments and retries (O43 to O45, O53, O54): the ACK frame received, the ACK owed to a peer, and the
expiry of the AckWaitTimer. A retry is the loss of an acknowledgment with retries left, followed by `EnterIdle`. -/

namespace Sys2Proof.Proofs.AckRetry

open Sys2Proof.Machine Sys2Proof.Safety Sys2Proof.Proofs.Event Sys2Proof.Proofs.Channel Sys2Proof.Proofs.Receive
open Sys2Proof.Proofs.Submission (exec_running saturatingNext_eq)
open Sys2Proof.Proofs.Abandon (prepareRetransmission_eq_ackLost abandonCurrent_eq_waitLeft)

variable {s : State} {e : OutFrame} {rest : List OutFrame} {inj : Bool} {lqi : Lqi}

/-! ### An ACK frame is received (R218 to R220) -/

/-- R193: an accepted ACK frame goes to the acknowledgment branch, after the sniffs. -/
theorem exec_rxFrame_of_ack (hf : s.fault = false) (hreach : reachesFilter inj s)
    (hacc : accepted s.mailbox.frame.header s) (htype : s.mailbox.frame.header.ftype = .ack) :
    exec (.rxFrame inj lqi) s =
      .next (ackReceived s.mailbox.frame.header (emitted (sniffs s.mailbox.frame s) s)) := by
  rw [exec_rxFrame_of_accepted hf hreach hacc, dispatchFrame, htype]

theorem ackReceived_of_match {h : Header} (hms : s.ms = .ackPending) (hseq : h.seq = s.iff.seq) :
    ackReceived h s = ackMatched h s := by
  rw [ackReceived, if_pos hms, if_pos hseq]

theorem ackReceived_of_mismatch {h : Header} (hms : s.ms = .ackPending) (hseq : h.seq ≠ s.iff.seq) :
    ackReceived h s = retryOrGiveUp (trace (.rxAckMismatch h.seq) s) := by
  rw [ackReceived, if_pos hms, if_neg hseq]

theorem ackReceived_of_unexpected {h : Header} (hms : s.ms ≠ .ackPending) :
    ackReceived h s = trace (.rxAckUnexpected h.seq) s := if_neg hms

/-- R218, of a queued head. -/
theorem ackMatched_eq (h : Header) (hq : s.txq = e :: rest) :
    ackMatched h s =
      idleEntered (slotCleared (headReleased e rest
        (ackWaitCancelled (emitted (confirmed e .success ++ [.trace (.ackOk h.seq)]) s)))) := by
  have hconfirm := confirmHead_eq (s := ackwCancel s) hq .success
  have hpop := removeHead_eq (s := trace (.ackOk h.seq) (emitted (confirmed e .success) (ackwCancel s))) hq
  rw [ackMatched, hconfirm, hpop, enterIdle_eq_idleEntered, trace_eq_emitted, emitted_emitted]
  rfl

/-- R210, R219: a timeout, or what is treated as one, with a queued head. -/
theorem retryOrGiveUp_eq (hq : s.txq = e :: rest) : retryOrGiveUp s = idleEntered (ackLost e rest s) := by
  rw [retryOrGiveUp, prepareRetransmission_eq_ackLost hq, enterIdle_eq_idleEntered]

/-- Settles O43: the dispatch takes the matching branch, and R218 is its written-out record. -/
theorem matchingAckConfirmsTheFrame : Obligations.MatchingAckConfirmsTheFrame := by
  intro s inj lqi e rest hf hreach hacc htype hms hseq hq
  rw [exec_rxFrame_of_ack hf hreach hacc htype,
    ackReceived_of_match (s := emitted (sniffs s.mailbox.frame s) s) hms hseq,
    ackMatched_eq (s := emitted (sniffs s.mailbox.frame s) s) _ hq, emitted_emitted, List.append_assoc]

/-- Settles O44: outside the matching branch an ACK is a timeout in `AckPending` and a trace elsewhere. -/
theorem otherAckIsATimeoutOrUnexpected : Obligations.OtherAckIsATimeoutOrUnexpected := by
  intro s inj lqi hf hreach hacc htype
  rw [exec_rxFrame_of_ack hf hreach hacc htype]
  constructor
  · intro e rest hms hseq hq
    rw [ackReceived_of_mismatch (s := emitted (sniffs s.mailbox.frame s) s) hms hseq, trace_eq_emitted,
      emitted_emitted, retryOrGiveUp_eq (s := emitted _ s) hq]
  · intro hms
    rw [ackReceived_of_unexpected (s := emitted (sniffs s.mailbox.frame s) s) hms, trace_eq_emitted, emitted_emitted]

/-! ### An ACK is owed (R194, R214, R215) -/

/-- R215: the current wait is left, the schedule cancelled, and the ACK loaded. -/
theorem generateAck_eq (seq : SeqNo) (hq : s.ms = .ackPending → s.txq ≠ []) :
    generateAck seq s =
      sendingEntered
        { frame := Codec.buildAck seq, handle := 0#8, tag := .ack, ackreq := false, seq := seq, origin := .ackgen }
        false (scheduleCancelled (waitLeft s)) := by
  rw [generateAck, abandonCurrent_eq_waitLeft hq, enterSending_eq_sendingEntered]
  rfl

/-- R214: a handshake tag of a frame that is acknowledged is only traced. -/
theorem trace_hsSkipped_eq (tag : Tag) (s : State) :
    (if isHandshake tag then trace (.hsSkippedForAck tag) s else s) =
      emitted
        (if tag = .rfe ∨ tag = .cfe ∨ tag = .cfeAck ∨ tag = .energy then [.trace (.hsSkippedForAck tag)] else [])
        s := by
  simp only [isHandshake_iff, handshakeTag]
  split
  · rfl
  · simp [emitted]

/-- Settles O45: outside `Sending` an owed acknowledgment is generated before the frame's closing actions. -/
theorem owedAckIsSentFirst : Obligations.OwedAckIsSentFirst := by
  intro s inj lqi hf hreach hacc htype hreq hdst hms hq f skipped ack
  have howed : ackOwed f.header (emitted (sniffs f s) s) = true :=
    (ackOwed_emitted ..).trans ((ackOwed_iff _ _).2 ⟨hreq, hdst⟩)
  rw [exec_rxFrame_of_data_or_command hf hreach hacc htype,
    reactToFrame_of_owed (s := emitted (sniffs f s) s) _ hms howed, trace_hsSkipped_eq, emitted_emitted,
    generateAck_eq (s := emitted _ s) _ hq]

/-! ### The AckWaitTimer (R210, R212) -/

theorem exec_ackwaitFire_of_armed (hf : s.fault = false) (harmed : s.ackw.armed = true) (hq : s.txq = e :: rest) :
    exec .ackwaitFire s = .next (idleEntered (ackLost e rest s)) := by
  rw [exec_running hf, effect, if_pos harmed, retryOrGiveUp_eq hq]

/-- Settles O53: an armed timer is a timeout, and the event's opcode is 0x7. -/
theorem ackWaitExpiryRetriesOrGivesUp : Obligations.AckWaitExpiryRetriesOrGivesUp := by
  intro s hf
  refine ⟨fun e rest harmed hq => exec_ackwaitFire_of_armed hf harmed hq, fun hoff => ?_⟩
  have hop : opcodeOf .ackwaitFire = 0x7#4 := by decide
  rw [exec_running hf, effect, if_neg (Bool.eq_false_iff.1 hoff), hop, trace_eq_emitted]

/-- R65, R33: in `AckPending` the frame in flight is the head of the queue. -/
theorem txq_head_of_ackPending (h : Invariants s) (hms : s.ms = .ackPending) :
    s.txq.head? = some (slotRecord s.iff) := by
  obtain ⟨_, _, hqueued, _⟩ := h.ackPending_slot hms
  exact h.head_is_slot (h.slot_full (.inr (.inl hms))) hqueued

/-- R212, R121: with retries left and nothing scheduled the queue is kept and channel access is entered again. -/
theorem idleEntered_ackLost_of_retry (hq : s.txq = e :: rest) (hsce : s.sce.pending = false)
    (hlt : s.retryCnt < s.cfg.maxFrameRetries) :
    idleEntered (ackLost e rest s) =
      { s with
        ms := .channelAccess, arbRun := true, retryCnt := s.retryCnt + 1, ccaCnt := saturatingNext s.ccaCnt
        ackw := { s.ackw with armed := false }, iff := { s.iff with valid := false, inQueue := false }
        out := s.out ++ [.trace (.retry (s.retryCnt + 1))] ++
          [.trxRequest .rxOn, .arbStart, .trace (.arbStart (saturatingNext s.ccaCnt))] } := by
  have hne : s.txq ≠ [] := by simp [hq]
  rw [ackLost, if_pos hlt, idleEntered, if_pos ⟨hne, rfl, hsce⟩, saturatingNext_eq]
  rfl

/-- Settles O54: the retry keeps the queue, whose head was in flight, and none of its actions confirms. -/
theorem retryKeepsTheFrameQueued : Obligations.RetryKeepsTheFrameQueued := by
  intro s t hf hinv harmed hsce hlt hexec
  have hhead := txq_head_of_ackPending hinv (hinv.ackw_iff.1 harmed)
  obtain ⟨rest, hq⟩ := List.head?_eq_some_iff.1 hhead
  rw [exec_ackwaitFire_of_armed hf harmed hq, idleEntered_ackLost_of_retry hq hsce hlt] at hexec
  cases hexec
  refine ⟨rfl, rfl, hhead, rfl, rfl, rfl, rfl, rfl, ?_⟩
  simp [endedHandles, endedHandle]

end Sys2Proof.Proofs.AckRetry

/-! PROOFS. The energy-transfer handshake (O48 to O52, O55 to O60): the reactions to tagged frames, the energy samples, the
scheduled action and the handshake timer. A statement writes each effect out as a record; here the procedures are those
records. -/

namespace Sys2Proof.Proofs.Handshake

open Sys2Proof.Machine Sys2Proof.Safety Sys2Proof.Proofs.Event Sys2Proof.Proofs.Receive
open Sys2Proof.Proofs.Submission (exec_running checkQueue_eq_queueChecked)
open Sys2Proof.Proofs.Abandon (abandonCurrent_eq_waitLeft arbCancel_eq txq_ne_nil_of_ackPending)
open Sys2Proof.Proofs.Channel (enterIdle_eq_idleEntered)
open Sys2Proof.Proofs.LastingPart (Lasts Lasting lasting_waitLeft lasting_forceIdle lasts_of_ite)

variable {s : State} {inj : Bool} {lqi : Lqi}

/-! ### A tagged frame is heard (R194, R230) -/

/-- R194, R230: outside `Sending`, with no acknowledgment owed, a tagged frame is reacted to between its sniffs and its
closing actions. -/
theorem exec_rxFrame_of_handshake (hf : s.fault = false) (hreach : reachesFilter inj s)
    (hacc : accepted s.mailbox.frame.header s)
    (htype : s.mailbox.frame.header.ftype = .data ∨ s.mailbox.frame.header.ftype = .command)
    (hack : s.mailbox.frame.header.ackreq = false ∨ broadcastFrame s.mailbox.frame.header s)
    (htag : handshakeTag s.mailbox.frame.metadata.tag) (hms : s.ms ≠ .sending) :
    exec (.rxFrame inj lqi) s =
      .next (emitted (frameClosing lqi s.mailbox.frame)
        (hsReact s.mailbox.frame.header s.mailbox.frame.metadata (emitted (sniffs s.mailbox.frame s) s))) := by
  have howed : ackOwed s.mailbox.frame.header (emitted (sniffs s.mailbox.frame s) s) = false :=
    (ackOwed_emitted ..).trans ((ackOwed_eq_false_iff _ _).2 hack)
  rw [exec_rxFrame_of_data_or_command hf hreach hacc htype,
    reactToFrame_of_unowed (s := emitted (sniffs s.mailbox.frame s) s) _ hms howed, if_pos ((isHandshake_iff _).2 htag)]

/-- What a reaction traces stands between the sniffs and the closing actions. -/
theorem emitted_append_append (acts reaction closing : List Action) (s : State) :
    emitted (acts ++ reaction ++ closing) s = emitted closing (emitted reaction (emitted acts s)) := by
  rw [emitted_emitted, emitted_emitted, List.append_assoc]

/-- R239. -/
theorem emitted_violation (tag : Tag) (acts closing : List Action) (s : State) :
    emitted closing (violation tag (emitted acts s)) = emitted (acts ++ [.trace (.rxViolation tag)] ++ closing) s :=
  (emitted_append_append ..).symm

/-! ### The reactions by tag and role (R230) -/

section Reactions

variable {h : Header} {m : Metadata}

theorem hsReact_rfe_donor (htag : m.tag = .rfe) (hrole : s.cfg.role = .energyDonor) :
    hsReact h m s = donorRfe h m s := by
  simp only [hsReact, htag, hrole]

theorem hsReact_rfe_sensor (htag : m.tag = .rfe) (hrole : s.cfg.role = .sensor) :
    hsReact h m s = sensorRfe h m s := by
  simp only [hsReact, htag, hrole]

theorem hsReact_cfe_donor (htag : m.tag = .cfe) (hrole : s.cfg.role = .energyDonor) :
    hsReact h m s = violation .cfe s := by
  simp only [hsReact, htag, hrole]

theorem hsReact_cfe_sensor (htag : m.tag = .cfe) (hrole : s.cfg.role = .sensor) :
    hsReact h m s = recordAnnounced h s := by
  simp only [hsReact, htag, hrole]

theorem hsReact_cfeAck_honoured (htag : m.tag = .cfeAck)
    (hwait : s.ms = .cfeAckPending ∨ (s.ms = .cfePending ∧ s.cfg.role = .energyDonor)) :
    hsReact h m s = honourCfeAck m s := by
  simp only [hsReact, htag, if_pos (hwait.imp_right And.symm)]

theorem hsReact_cfeAck_unawaited (htag : m.tag = .cfeAck)
    (hwait : ¬(s.ms = .cfeAckPending ∨ (s.ms = .cfePending ∧ s.cfg.role = .energyDonor))) :
    hsReact h m s = violation .cfeAck s := by
  simp only [hsReact, htag, if_neg (hwait ∘ Or.imp_right And.symm)]

theorem hsReact_energy (htag : m.tag = .energy) : hsReact h m s = trace .hsEnergySeen (contextCleared s) := by
  simp only [hsReact, htag]
  rfl

end Reactions

/-! ### An RFE at an EnergyDonor (R231, R232) -/

theorem groupMapped_iff (g : Group) : groupMapped g = true ↔ g = 1#8 ∨ g = 2#8 := decide_eq_true_iff

theorem donorRfe_of_good {f : Frame} (hgroup : f.metadata.group = 1#8 ∨ f.metadata.group = 2#8)
    (hsrc : f.header.srcMode = .short ∨ f.header.srcMode = .extended) (hq : s.ms = .ackPending → s.txq ≠ []) :
    donorRfe f.header f.metadata s =
      emitted [.trace (.hsRfeDonor f.metadata.group)]
        { requesterRecorded f (idleForced (waitLeft (scheduleCancelled s))) with
          sce := { pending := true, action := .emitCfe, delay := groupDelay s.cfg f.metadata.group } } := by
  have hleft : abandonCurrent (sceCancel s) = waitLeft (scheduleCancelled s) := abandonCurrent_eq_waitLeft hq
  rw [donorRfe, if_pos (by simp [groupMapped_iff, hasAddress_iff, hgroup, hsrc]), hleft]
  rfl

theorem donorRfe_of_bad {f : Frame}
    (hbad : ¬((f.metadata.group = 1#8 ∨ f.metadata.group = 2#8) ∧
      (f.header.srcMode = .short ∨ f.header.srcMode = .extended))) :
    donorRfe f.header f.metadata s = violation .rfe s := by
  rw [donorRfe, if_neg (by simpa only [Bool.and_eq_true, groupMapped_iff, hasAddress_iff] using hbad)]

/-- Settles O48: R231 is the table of R132 followed by the records of `Idle`, of the requester and of the schedule. -/
theorem donorSchedulesACfeForAnRfe : Obligations.DonorSchedulesACfeForAnRfe := by
  intro s inj lqi hf hreach hacc htype hack htag hrole hms hq f good
  rw [exec_rxFrame_of_handshake hf hreach hacc htype hack (.inl htag) hms,
    hsReact_rfe_donor (s := emitted (sniffs f s) s) htag hrole]
  constructor
  · rintro ⟨hgroup, hsrc⟩
    rw [donorRfe_of_good (s := emitted (sniffs f s) s) hgroup hsrc hq, emitted_emitted]
    rfl
  · intro hbad
    rw [donorRfe_of_bad hbad, emitted_violation]

/-! ### An RFE at a Sensor (R233, R234) -/

/-- R129: of a disarmed timer. -/
theorem hswArm_eq (hoff : s.hsw = { armed := false }) : hswArm s = { s with hsw := { armed := s.cfg.hsTimeoutEn } } := by
  rcases hswArm_cases s with ⟨hen, heq⟩ | ⟨hen, heq⟩ <;> rw [heq, hen]
  rw [← hoff]

theorem sensorFreeze_eq (f : Frame) (acts : List Action) (s : State) :
    sensorFreeze f.header f.metadata (emitted acts s) =
      emitted (acts ++ (if s.arbRun then [.arbCancel] else []) ++ [.trace .hsRfeSensor])
        { requesterRecorded f (scheduleCancelled s) with
          ms := .energyPending, arbRun := false, hsw := { armed := s.cfg.hsTimeoutEn } } := by
  rw [sensorFreeze, arbCancel_eq, hswArm_eq rfl, emitted_append_append]
  rfl

theorem sensorRfe_of_freezing {h : Header} {m : Metadata}
    (hms : s.ms = .idle ∨ s.ms = .channelAccess ∨ s.ms = .energyPending) : sensorRfe h m s = sensorFreeze h m s := by
  rcases hms with hms | hms | hms <;> simp only [sensorRfe, hms]

theorem sensorRfe_of_waiting {h : Header} {m : Metadata}
    (hms : s.ms = .ackPending ∨ s.ms = .cfePending ∨ s.ms = .cfeAckPending) : sensorRfe h m s = violation .rfe s := by
  rcases hms with hms | hms | hms <;> simp only [sensorRfe, hms]

/-- Settles O49: the three states that freeze, and the three waits where an RFE is a violation. -/
theorem sensorFreezesOnAnRfe : Obligations.SensorFreezesOnAnRfe := by
  intro s inj lqi hf hreach hacc htype hack htag hrole f
  have hreact (hms : s.ms ≠ .sending) := exec_rxFrame_of_handshake (lqi := lqi) hf hreach hacc htype hack (.inl htag) hms
  rw [hsReact_rfe_sensor (s := emitted (sniffs f s) s) htag hrole] at hreact
  constructor
  · intro hms
    rw [hreact (fun hsending => by simp [hsending] at hms),
      sensorRfe_of_freezing (s := emitted (sniffs f s) s) hms, sensorFreeze_eq, emitted_emitted]
  · intro hms
    rw [hreact (fun hsending => by simp [hsending] at hms),
      sensorRfe_of_waiting (s := emitted (sniffs f s) s) hms, emitted_violation]

/-! ### The other tagged frames (R235 to R239) -/

/-- Settles O50: R235 for a Sensor, R236 for an EnergyDonor. -/
theorem sensorRecordsTheAnnouncedTarget : Obligations.SensorRecordsTheAnnouncedTarget := by
  intro s inj lqi hf hreach hacc htype hack htag hms f
  rw [exec_rxFrame_of_handshake hf hreach hacc htype hack (.inr (.inl htag)) hms]
  constructor
  · intro hrole
    rw [hsReact_cfe_sensor (s := emitted (sniffs f s) s) htag hrole, emitted_append_append]
    rfl
  · intro hrole
    rw [hsReact_cfe_donor (s := emitted (sniffs f s) s) htag hrole, emitted_violation]

/-- Settles O51: the states where R237 honours a CFE-ACK, and R239 elsewhere. -/
theorem cfeAckSchedulesTheEnergyPulse : Obligations.CfeAckSchedulesTheEnergyPulse := by
  intro s inj lqi hf hreach hacc htype hack htag hms f honoured
  rw [exec_rxFrame_of_handshake hf hreach hacc htype hack (.inr (.inr (.inl htag))) hms]
  constructor
  · intro hhonoured
    rw [hsReact_cfeAck_honoured (s := emitted (sniffs f s) s) htag hhonoured, emitted_append_append]
    rfl
  · intro hnot
    rw [hsReact_cfeAck_unawaited (s := emitted (sniffs f s) s) htag hnot, emitted_violation]

/-- Settles O52: the three valid bits are R127's. -/
theorem observedEnergyFrameClearsTheContext : Obligations.ObservedEnergyFrameClearsTheContext := by
  intro s inj lqi hf hreach hacc htype hack htag hms
  rw [exec_rxFrame_of_handshake hf hreach hacc htype hack (.inr (.inr (.inr htag))) hms, hsReact_energy htag,
    emitted_append_append]
  rfl

/-! ### The energy samples (R240 to R244, R248) -/

theorem exec_energySample (hf : s.fault = false) (slot : BitVec 3) :
    exec (.energySample slot) s = .next (energySampled slot s) := exec_running hf _

/-- Settles O55: neither slot asks for anything. -/
theorem firstSlotSampleIsStored : Obligations.FirstSlotSampleIsStored := fun _ hf =>
  ⟨exec_energySample hf 1#3, exec_energySample hf 3#3⟩

/-- R248. -/
theorem isTarget_iff (s : State) :
    isTarget s = true ↔ s.hs.annValid = true ∧ s.hs.annPan = s.panId ∧
      ((s.hs.annMode = .short ∧ s.hs.annAddr.setWidth 16 = s.shortAddr) ∨
        (s.hs.annMode = .extended ∧ s.hs.annAddr = s.extAddrHi ++ s.extAddrLo)) := by
  refine decide_eq_true_iff.trans ?_
  simp [State.extAddr, BitVec.setWidth_eq_extractLsb']

/-- R242: the quotient fits in the 32 bits of a duration. -/
theorem toNat_chargeDuration (c : Config) (sum : Nat) :
    (chargeDuration c sum).toNat = c.requiredEnergy.toNat / sum := by
  rw [chargeDuration, BitVec.toNat_ofNat,
    Nat.mod_eq_of_lt ((Nat.div_le_self _ _).trans_lt c.requiredEnergy.isLt)]

theorem sampleSecond_of_unpaired (h : ¬(isTarget s = true ∧ s.hs.e1Valid = true)) :
    sampleSecond s =
      emitted [.trace (.hsSample 2#3 s.mailbox.energy)] { s with hs := { s.hs with e2 := s.mailbox.energy } } :=
  if_neg ((Bool.and_eq_true ..).mp.mt h)

/-- R242: at the target a stored first sample is consumed with the second, and a sum of 0 is only traced. -/
theorem sampleSecond_of_zero (htarget : isTarget s = true) (hfirst : s.hs.e1Valid = true)
    (hsum : sampleSum s.hs.e1 s.mailbox.energy = 0) :
    sampleSecond s =
      emitted [.trace (.hsSample 2#3 s.mailbox.energy), .trace .hsDivZero]
        { s with hs := { s.hs with e2 := s.mailbox.energy, e1Valid := false } } := by
  have hpaired : (isTarget s && s.hs.e1Valid) = true := by rw [htarget, hfirst, Bool.and_self]
  refine (if_pos hpaired).trans ((if_pos hsum).trans ?_)
  simp [trace, emit, emitted]

/-- R242: at the target the quotient of a nonzero sum is stored and a CFE-ACK scheduled. -/
theorem sampleSecond_of_nonzero (htarget : isTarget s = true) (hfirst : s.hs.e1Valid = true)
    (hsum : sampleSum s.hs.e1 s.mailbox.energy ≠ 0) :
    sampleSecond s =
      emitted [.trace (.hsSample 2#3 s.mailbox.energy)]
        { s with
          hs := { s.hs with
            e2 := s.mailbox.energy, e1Valid := false
            duration := chargeDuration s.cfg (sampleSum s.hs.e1 s.mailbox.energy) }
          sce := { pending := true, action := .emitCfeAck, delay := s.cfg.cfeAckDelay } } := by
  have hpaired : (isTarget s && s.hs.e1Valid) = true := by rw [htarget, hfirst, Bool.and_self]
  exact (if_pos hpaired).trans (if_neg hsum)

/-- Settles O56: the target test is R248's, and the quotient of the exact sum fits in `HS.duration`. -/
theorem secondSlotSampleSchedulesTheCfeAck : Obligations.SecondSlotSampleSchedulesTheCfeAck := by
  intro s hf target stored sample sum
  have hexec : exec (.energySample 2#3) s = .next (sampleSecond s) := exec_energySample hf 2#3
  rw [hexec]
  refine ⟨fun hnot => ?_, fun htarget hfirst hzero => ?_, fun htarget hfirst hsum => ?_⟩
  · rw [sampleSecond_of_unpaired (by rwa [isTarget_iff])]
  · rw [sampleSecond_of_zero ((isTarget_iff s).2 htarget) hfirst hzero]
  · refine ⟨chargeDuration s.cfg sum, toNat_chargeDuration _ _, ?_⟩
    rw [sampleSecond_of_nonzero ((isTarget_iff s).2 htarget) hfirst hsum]
    rfl

/-- R243. -/
theorem sampleTotal_of_energyPending (hms : s.ms = .energyPending) :
    sampleTotal s =
      idleEntered (slotCleared (contextCleared (scheduleCancelled
        (emitted [.trace (.hsSample 0#3 s.mailbox.energy), .energyIndication s.mailbox.energy,
          .trace (.hsDone s.mailbox.energy)] { s with hsw := { armed := false } })))) := by
  rw [sampleTotal, if_pos hms, enterIdle_eq_idleEntered]
  simp [trace, emit, emitted, hswCancel, sceCancel, hsClear, iffClear, slotCleared, contextCleared, scheduleCancelled]

/-- Settles O57: in `EnergyPending` the sample ends the wait, elsewhere only its trace is left. -/
theorem totalSampleEndsTheEnergyWait : Obligations.TotalSampleEndsTheEnergyWait := by
  intro s hf
  have hexec : exec (.energySample 0#3) s = .next (sampleTotal s) := exec_energySample hf 0#3
  rw [hexec]
  refine ⟨fun hms => by rw [sampleTotal_of_energyPending hms], fun hms => ?_⟩
  rw [sampleTotal, if_neg hms]
  rfl

/-! ### The scheduled action (R245 to R247) -/

/-- R246: a CFE whose context is gone. -/
theorem emitHs_of_lost (hvalid : s.hs.valid = false) :
    emitHs .emitCfe s = emitted [.trace (.hsAborted .idle)] s := if_pos ⟨rfl, hvalid⟩

/-- R246: a full queue. -/
theorem emitHs_of_full {action : SceAction} (hlive : ¬(action = .emitCfe ∧ s.hs.valid = false))
    (hfull : s.cfg.txqDepth = some s.txq.length) :
    emitHs action s = emitted [.trace (.hsQueueFull (hsParams action s).tag)] s := by
  have hqueue : queueFull s = true := decide_eq_true hfull
  rw [emitHs, if_neg hlive, if_pos hqueue, trace_eq_emitted]

/-- R246: room in the queue. -/
theorem emitHs_of_room {action : SceAction} (hlive : ¬(action = .emitCfe ∧ s.hs.valid = false))
    (hroom : s.cfg.txqDepth ≠ some s.txq.length) :
    emitHs action s =
      emitted [.trace (.hsEmit (hsParams action s).tag)]
        { s with
          dsn := s.dsn + 1#8
          txq := if s.cfg.hsInsertFront = true then handshakeEntry action s :: s.txq
            else s.txq ++ [handshakeEntry action s] } := by
  have hqueue : ¬queueFull s = true := hroom ∘ of_decide_eq_true
  rw [emitHs, if_neg hlive, if_neg hqueue]
  cases hfront : s.cfg.hsInsertFront <;> rfl

/-- Leaving the wait keeps the handshake context (R132). -/
theorem hs_waitLeft (s : State) : (waitLeft s).hs = s.hs := by
  cases hms : s.ms with
  | ackPending =>
    cases hq : s.txq with
    | nil => simp [waitLeft, hms, hq]
    | cons e rest =>
      simp only [waitLeft, hms, hq, ackLost]
      split <;> rfl
  | idle | channelAccess | sending | cfePending | cfeAckPending | energyPending => simp [waitLeft, hms, slotCleared]

/-- R245: the block as the action finds it, its schedule and its wait left and `Idle` forced. -/
def waitEnded (s : State) : State := idleForced (waitLeft (scheduleCancelled s))

theorem hs_waitEnded (s : State) : (waitEnded s).hs = s.hs := by
  have hforce : (waitEnded s).hs = (waitLeft (scheduleCancelled s)).hs := by
    rw [waitEnded, idleForced]
    split <;> rfl
  exact hforce.trans (hs_waitLeft _)

theorem lasts_waitEnded (s : State) : Lasts s (waitEnded s) :=
  (lasts_of_ite (lasting_waitLeft (scheduleCancelled s))).of_eq (lasting_forceIdle _)

/-- R247: what is emitted depends on the context and the identity, which outlast the wait. -/
theorem hsParams_waitEnded (action : SceAction) (s : State) : hsParams action (waitEnded s) = hsParams action s := by
  have hhs := hs_waitEnded s
  have hlast := lasts_waitEnded s
  have hsrc : (waitEnded s).sourceId = s.sourceId := by
    rcases hlast with h | h <;>
      exact congrArg (fun l : Lasting => SourceId.mk l.shortAddr (l.extAddrHi ++ l.extAddrLo) l.panId) h
  have hpan : (waitEnded s).panId = s.panId := congrArg SourceId.pan hsrc
  cases action <;> simp only [hsParams, hhs, hsrc, hpan, hlast.cfg_eq]

/-- R245: a scheduled action fires outside `Sending`. -/
theorem exec_sceFire_of_pending (hf : s.fault = false) (hinv : Invariants s) (hsce : s.sce.pending = true)
    (hms : s.ms ≠ .sending) :
    exec .sceFire s = .next (queueChecked (emitHs s.sce.action (waitEnded s))) := by
  have hq : s.ms = .ackPending → s.txq ≠ [] := txq_ne_nil_of_ackPending hinv
  have hleft : abandonCurrent (sceCancel s) = waitLeft (scheduleCancelled s) :=
    abandonCurrent_eq_waitLeft (s := scheduleCancelled s) hq
  have hfired : sceFired s = checkQueue (emitHs s.sce.action (forceIdle (abandonCurrent (sceCancel s)))) := rfl
  rw [exec_running hf, effect, if_pos hsce, if_neg (by simp [isHeld, hms]), hfired, hleft, checkQueue_eq_queueChecked]
  rfl

/-- Settles O58: the event's opcode is 0x8; a lost context is R246's first case. -/
theorem sceFireWithNothingToEmit : Obligations.SceFireWithNothingToEmit := by
  intro s hf
  refine ⟨fun hoff => ?_, fun hinv hsce hms haction hvalid => ?_⟩
  · have hop : opcodeOf .sceFire = 0x8#4 := Laws.OpcodeOfEncoding.sceFire
    rw [exec_running hf, effect, if_neg (Bool.eq_false_iff.1 hoff), hop, trace_eq_emitted]
  · rw [exec_sceFire_of_pending hf hinv hsce hms, haction, emitHs_of_lost (by rwa [hs_waitEnded]), waitEnded]

/-- Settles O59: each row of R247 is the model's, only a CFE asks for a context, and what the entry and its place depend on
outlasts the wait. -/
theorem scheduledActionQueuesItsHandshakeFrame : Obligations.ScheduledActionQueuesItsHandshakeFrame := by
  intro s p hf hinv hsce hms hrow left entry full
  have hlive : ¬(s.sce.action = .emitCfe ∧ (waitEnded s).hs.valid = false) := by
    rintro ⟨haction, hvalid⟩
    rw [hs_waitEnded] at hvalid
    simp [haction, hvalid] at hrow
  have hp : hsParams s.sce.action (waitEnded s) = p := by
    rw [hsParams_waitEnded]
    rcases hrow with ⟨haction, _, rfl⟩ | ⟨haction, rfl⟩ | ⟨haction, rfl⟩ <;> rw [haction] <;> rfl
  have hcfg := (lasts_waitEnded s).cfg_eq
  have hfront : (waitEnded s).cfg.hsInsertFront = s.cfg.hsInsertFront := congrArg Config.hsInsertFront hcfg
  have hdsn := (lasts_waitEnded s).dsn_eq
  rw [exec_sceFire_of_pending hf hinv hsce hms]
  refine ⟨fun hroom => ?_, fun hfull => ?_⟩
  · rw [emitHs_of_room hlive (by rwa [hcfg]), handshakeEntry, hp, hdsn, hfront]
    rfl
  · rw [emitHs_of_full hlive (by rwa [hcfg]), hp]
    rfl

/-! ### The handshake timer (R249) -/

theorem hsTimedOut_eq (s : State) :
    hsTimedOut s =
      idleEntered (slotCleared (contextCleared (scheduleCancelled
        (emitted [.trace .hsTimeout] { s with hsw := { armed := false } })))) :=
  enterIdle_eq_idleEntered _

/-- Settles O60: an armed timer ends the wait, and the event's opcode is 0x9. -/
theorem handshakeTimeoutEndsTheWait : Obligations.HandshakeTimeoutEndsTheWait := by
  intro s hf
  rw [exec_running hf, effect]
  refine ⟨fun harmed => by rw [if_pos harmed, hsTimedOut_eq], fun hoff => ?_⟩
  have hop : opcodeOf .hswaitFire = 0x9#4 := Laws.OpcodeOfEncoding.hswaitFire
  rw [if_neg (Bool.eq_false_iff.1 hoff), hop, trace_eq_emitted]

end Sys2Proof.Proofs.Handshake

/-! PROOFS. The fatal entry and the halted block (O8, O17). -/

namespace Sys2Proof.Proofs.FatalEntry

open Sys2Proof.Machine Sys2Proof.Safety Sys2Proof.Proofs.Event

/-! ### The halted block (R276) -/

theorem exec_halted {s : State} (hf : s.fault = true) (i : Instr) : exec i s = .fault .halted := by
  rw [exec_eq_accept_effect, accept_halted hf]

/-- Settles O8: whether a step waits, runs an event or consumes an illegal word, it answers through `accept`. -/
theorem faultedBlockAcceptsNoEvent : Obligations.FaultedBlockAcceptsNoEvent := by
  intro s hf
  refine ⟨?_, exec_halted hf⟩
  unfold step
  split
  · exact accept_halted hf s
  · next ev rest _ =>
    have hpresent : (present ev rest s).fault = true := hf
    split
    · next i _ => exact exec_halted hpresent i
    · exact accept_halted hpresent _

/-! ### The common procedures leave `FAULT` -/

section Procedures

variable (s : State)

@[simp] theorem arbCancel_fault : (arbCancel s).fault = s.fault := by
  obtain ⟨_, heq⟩ := arbCancel_writes s
  rw [heq]

@[simp] theorem hswArm_fault : (hswArm s).fault = s.fault := by
  obtain ⟨_, heq⟩ := hswArm_writes s
  rw [heq]

@[simp] theorem forceIdle_fault : (forceIdle s).fault = s.fault := by
  obtain ⟨_, heq⟩ := forceIdle_writes s
  rw [heq]

@[simp] theorem checkQueue_fault : (checkQueue s).fault = s.fault := by
  obtain ⟨_, _, _, _, heq⟩ := checkQueue_writes s
  rw [heq]

@[simp] theorem enterIdle_fault : (enterIdle s).fault = s.fault := by
  obtain ⟨_, _, _, _, heq⟩ := enterIdle_writes s
  rw [heq]

@[simp] theorem confirmHead_fault (status : Status) : (confirmHead status s).fault = s.fault := by
  obtain ⟨_, heq⟩ := confirmHead_writes s status
  rw [heq]

@[simp] theorem removeHead_fault : (removeHead s).fault = s.fault := by
  obtain ⟨_, _, heq⟩ := removeHead_writes s
  rw [heq]

@[simp] theorem enterSending_fault (e : OutFrame) (inQueue : Bool) : (enterSending e inQueue s).fault = s.fault := rfl

@[simp] theorem prepareRetransmission_fault : (prepareRetransmission s).fault = s.fault := by
  rcases prepareRetransmission_cases s with ⟨_, heq⟩ | ⟨_, _, heq⟩ | ⟨_, _, heq⟩ <;> rw [heq]

@[simp] theorem abandonCurrent_fault : (abandonCurrent s).fault = s.fault := by
  by_cases hwait : isHandshakeWait s.ms = true
  · rw [abandonCurrent_wait hwait]
  · cases hms : s.ms with
    | idle => rw [abandonCurrent_idle hms]
    | channelAccess => rw [abandonCurrent_channelAccess hms, arbCancel_fault]
    | sending => rw [abandonCurrent_sending hms]
    | ackPending => rw [abandonCurrent_ackPending hms, prepareRetransmission_fault]
    | cfePending | cfeAckPending | energyPending => simp [hms, isHandshakeWait] at hwait

@[simp] theorem generateAck_fault (seq : SeqNo) : (generateAck seq s).fault = s.fault := by
  simp [generateAck]

@[simp] theorem retryOrGiveUp_fault : (retryOrGiveUp s).fault = s.fault := by
  simp [retryOrGiveUp]

/-! ### The confirmations of the Arbiter and of Radio Control -/

theorem ccaConfirmed_fault (code : BitVec 3) : (ccaConfirmed code s).fault = s.fault := by
  unfold ccaConfirmed
  split
  · rfl
  · split
    · split
      · rfl
      · simp [channelAccessFailed]
    · rfl

/-- R163: a TRX_CONF enters the fatal condition or leaves `FAULT`. -/
theorem trxConfirmed_cases (code : BitVec 3) :
    trxConfirmed code s = fatal .trxState code s ∨ (trxConfirmed code s).fault = s.fault := by
  unfold trxConfirmed issueTransmit
  split
  · exact .inr rfl
  · split
    · refine .inr ?_
      split
      · split <;> rfl
      · rfl
    · exact .inl rfl

theorem awaitHandshake_fault (next : MacState) : (awaitHandshake next s).fault = s.fault := by
  unfold awaitHandshake
  split <;> simp

theorem transmissionDone_fault : (transmissionDone s).fault = s.fault := by
  unfold transmissionDone
  dsimp only
  split <;> split <;> simp

theorem transmitted_fault : (transmitted s).fault = s.fault := by
  unfold transmitted
  cases s.iff.tag with
  | data =>
    dsimp only
    split
    · rfl
    · exact transmissionDone_fault (trace _ s)
  | rfe | cfe | cfeAck => exact awaitHandshake_fault (trace _ s) _
  | energy | ack | unused | untagged => exact transmissionDone_fault (trace _ s)

/-- R165: a TX_CONF enters the fatal condition or leaves `FAULT`. -/
theorem txConfirmed_cases (code : BitVec 3) :
    txConfirmed code s = fatal .txConf code s ∨ (txConfirmed code s).fault = s.fault := by
  unfold txConfirmed
  split
  · exact .inr (transmitted_fault s)
  · exact .inl rfl

/-! ### RX_FRAME -/

theorem ackReceived_fault (h : Header) : (ackReceived h s).fault = s.fault := by
  unfold ackReceived
  split
  · split <;> simp [ackMatched]
  · rfl

theorem donorRfe_fault (h : Header) (m : Metadata) : (donorRfe h m s).fault = s.fault := by
  unfold donorRfe
  split
  · simp [recordRequester]
  · rfl

theorem sensorRfe_fault (h : Header) (m : Metadata) : (sensorRfe h m s).fault = s.fault := by
  unfold sensorRfe
  cases s.ms with
  | idle | channelAccess | energyPending => simp [sensorFreeze, recordRequester]
  | sending | ackPending | cfePending | cfeAckPending => rfl

theorem hsReact_fault (h : Header) (m : Metadata) : (hsReact h m s).fault = s.fault := by
  unfold hsReact
  cases m.tag with
  | rfe =>
    cases s.cfg.role with
    | energyDonor => exact donorRfe_fault s h m
    | sensor => exact sensorRfe_fault s h m
  | cfe => cases s.cfg.role <;> rfl
  | cfeAck =>
    dsimp only
    split <;> rfl
  | energy | data | ack | unused | untagged => rfl

theorem reactToFrame_fault (h : Header) (m : Metadata) : (reactToFrame h m s).fault = s.fault := by
  unfold reactToFrame
  split
  · obtain ⟨_, heq⟩ := receivedWhileSending_writes s h m
    rw [heq]
  · split
    · rw [generateAck_fault]
      split <;> rfl
    · split
      · exact hsReact_fault s h m
      · rfl

theorem dataAccepted_fault (h : Header) (m : Metadata) (lqi : Lqi) (f : Frame) :
    (dataAccepted h m lqi f s).fault = s.fault := by
  obtain ⟨_, heq⟩ := indicate_writes (reactToFrame h m s) h m lqi f
  rw [dataAccepted, heq]
  exact reactToFrame_fault s h m

theorem dispatchFrame_fault (h : Header) (m : Metadata) (lqi : Lqi) (f : Frame) :
    (dispatchFrame h m lqi f s).fault = s.fault := by
  unfold dispatchFrame
  split
  · exact ackReceived_fault s h
  · rfl
  · exact dataAccepted_fault s h m lqi f
  · exact dataAccepted_fault s h m lqi f
  · rfl

theorem frameReceived_fault (inj : Bool) (lqi : Lqi) (f : Frame) : (frameReceived inj lqi f s).fault = s.fault := by
  obtain ⟨_, heq⟩ := sniffed_writes s f
  unfold frameReceived
  split
  · split
    · rfl
    · split <;> rw [heq]
      · rfl
      · exact dispatchFrame_fault { s with out := _ } ..
  · rfl

/-! ### The other events -/

theorem energySampled_fault (slot : BitVec 3) : (energySampled slot s).fault = s.fault := by
  unfold energySampled
  split
  · unfold sampleTotal
    dsimp only
    split
    · simp
    · rfl
  · rfl
  · unfold sampleSecond
    dsimp only
    split
    · split <;> rfl
    · rfl
  · rfl
  · rfl

theorem sceFired_fault : (sceFired s).fault = s.fault := by
  have hemit (action : SceAction) (t : State) : (emitHs action t).fault = t.fault := by
    rcases emitHs_cases action t with ⟨_, heq⟩ | ⟨_, _, heq⟩ <;> rw [heq]
  simp [sceFired, hemit]

theorem submitted_fault (handle : Handle) (tag : Tag) (txopt : TxOpt) (srcMode dstMode : AddrMode) (low : BitVec 10) :
    (submitted handle tag txopt srcMode dstMode low s).fault = s.fault := by
  unfold submitted
  split
  · rfl
  · simp [enqueueSubmission]

theorem configured_fault (reg : BitVec 4) : (configured reg s).fault = s.fault := by
  unfold configured
  split <;> rfl

end Procedures

/-! ### Every event -/

/-- R273: an event leaves `FAULT`, or is a confirmation of Radio Control that enters the fatal condition. -/
theorem effect_fault_cases (i : Instr) (s : State) :
    (effect i s).fault = s.fault ∨
      ∃ code, (i = .trxConf code ∧ effect i s = fatal .trxState code s) ∨
        (i = .txConf code ∧ effect i s = fatal .txConf code s) := by
  cases i with
  | trxConf code => exact (trxConfirmed_cases s code).symm.imp_right fun heq => ⟨code, .inl ⟨rfl, heq⟩⟩
  | txConf code => exact (txConfirmed_cases s code).symm.imp_right fun heq => ⟨code, .inr ⟨rfl, heq⟩⟩
  | submit handle tag txopt srcMode dstMode low =>
    refine .inl ?_
    dsimp only [effect]
    split
    · rfl
    · exact submitted_fault s ..
  | ccaConf code => exact .inl (ccaConfirmed_fault s code)
  | rxFrame inj lqi => exact .inl (frameReceived_fault s inj lqi _)
  | energySample slot => exact .inl (energySampled_fault s slot)
  | ackwaitFire =>
    refine .inl ?_
    dsimp only [effect]
    split
    · exact retryOrGiveUp_fault s
    · rfl
  | sceFire =>
    refine .inl ?_
    dsimp only [effect]
    split
    · split
      · rfl
      · exact sceFired_fault s
    · rfl
  | hswaitFire =>
    refine .inl ?_
    dsimp only [effect]
    split
    · simp [hsTimedOut]
    · rfl
  | cfgWrite reg => exact .inl (configured_fault s reg)

/-- Settles O17: an event is accepted with `FAULT = 0` only, so leaving it 1 is entering the fatal condition. -/
theorem onlyRadioConfirmationsAreFatal : Obligations.OnlyRadioConfirmationsAreFatal := by
  intro i s t hexec ht
  obtain ⟨hf, rfl⟩ := exec_eq_next.1 hexec
  rcases effect_fault_cases i s with hkept | ⟨code, hfatal⟩
  · rw [hkept, hf] at ht
    cases ht
  · simp only [Channel.fatal_eq_fatalEntered] at hfatal
    exact ⟨code, hfatal⟩

end Sys2Proof.Proofs.FatalEntry

/-! PROOFS. Decoding and encoding are inverse (O1, O2, O4), and what does not decode is what R105 calls illegal (O3). For
each format one lemma says when a word is made of given fields; read one way it decodes an encoded event, read the other
way it puts a decoded word together again. -/

namespace Sys2Proof.Proofs.Encoding

open Sys2Proof.Safety Sys2Proof.Laws Sys2Proof.Proofs.IllegalWord

variable {w : EventWord} {i : Instr}

/-! ### The fields of a word, format by format (R91 to R96) -/

/-- A field is the join of two when its upper and its lower part are those. -/
theorem slice_eq_append_iff {lo n m : Nat} {a : BitVec n} {b : BitVec m} :
    slice w lo (n + m) = a ++ b ↔ slice w (lo + m) n = a ∧ slice w lo m = b := by
  have hsplit : slice w (lo + m) n ++ slice w lo m = slice w lo (n + m) :=
    BitVec.extractLsb'_append_extractLsb'_eq_extractLsb' rfl
  constructor
  · intro h
    rw [← hsplit] at h
    have hupper := congrArg (BitVec.extractLsb' m n) h
    have hlower := congrArg (BitVec.extractLsb' 0 m) h
    simp only [BitVec.extractLsb'_append_eq_left, BitVec.extractLsb'_append_eq_right] at hupper hlower
    exact ⟨hupper, hlower⟩
  · rintro ⟨rfl, rfl⟩
    exact hsplit.symm

/-- The whole word is its field of 32 bits. -/
theorem eq_iff_slice (v : EventWord) : w = v ↔ slice w 0 32 = v := by
  rw [slice, BitVec.extractLsb'_eq_self]

theorem eq_formatS_iff {op : BitVec 4} {handle : Handle} {tag txopt : BitVec 3} {srcMode dstMode : BitVec 2}
    {low : BitVec 10} :
    w = op ++ handle ++ tag ++ txopt ++ srcMode ++ dstMode ++ low ↔
      slice w 28 4 = op ∧ slice w 20 8 = handle ∧ slice w 17 3 = tag ∧ slice w 14 3 = txopt ∧ slice w 12 2 = srcMode ∧
        slice w 10 2 = dstMode ∧ slice w 0 10 = low := by
  rw [eq_iff_slice]
  change slice w 0 (4 + 8 + 3 + 3 + 2 + 2 + 10) = op ++ handle ++ tag ++ txopt ++ srcMode ++ dstMode ++ low ↔ _
  simp only [slice_eq_append_iff, and_assoc]

theorem eq_formatC_iff {op : BitVec 4} {code : BitVec 3} :
    w = op ++ 0#25 ++ code ↔ slice w 28 4 = op ∧ slice w 3 25 = 0#25 ∧ slice w 0 3 = code := by
  rw [eq_iff_slice]
  change slice w 0 (4 + 25 + 3) = op ++ 0#25 ++ code ↔ _
  simp only [slice_eq_append_iff, and_assoc]

theorem eq_formatF_iff {op : BitVec 4} {inj : Bool} {lqi : Lqi} :
    w = op ++ 0#19 ++ BitVec.ofBool inj ++ lqi ↔
      slice w 28 4 = op ∧ slice w 9 19 = 0#19 ∧ w.getLsbD 8 = inj ∧ slice w 0 8 = lqi := by
  have hbit : slice w 8 1 = BitVec.ofBool inj ↔ w.getLsbD 8 = inj := by
    rw [BitVec.getLsbD_eq_extractLsb', slice]
    generalize w.extractLsb' 8 1 = bit
    revert bit inj
    decide
  rw [eq_iff_slice, ← hbit]
  change slice w 0 (4 + 19 + 1 + 8) = op ++ 0#19 ++ BitVec.ofBool inj ++ lqi ↔ _
  simp only [slice_eq_append_iff, and_assoc]

theorem eq_formatN_iff {op : BitVec 4} : w = op ++ 0#28 ↔ slice w 28 4 = op ∧ slice w 0 28 = 0#28 := by
  rw [eq_iff_slice]
  change slice w 0 (4 + 28) = op ++ 0#28 ↔ _
  simp only [slice_eq_append_iff]

theorem eq_formatG_iff {op reg : BitVec 4} :
    w = op ++ reg ++ 0#24 ↔ slice w 28 4 = op ∧ slice w 24 4 = reg ∧ slice w 0 24 = 0#24 := by
  rw [eq_iff_slice]
  change slice w 0 (4 + 4 + 24) = op ++ reg ++ 0#24 ↔ _
  simp only [slice_eq_append_iff, and_assoc]

/-! ### Decoding an encoded event -/

section Formats

variable {op : BitVec 4}

theorem decodeFormatC_append {mk : BitVec 3 → Instr} {code : BitVec 3} (h : (mk code).wellFormed = true) :
    decodeFormatC mk (op ++ 0#25 ++ code) = .event (mk code) := by
  obtain ⟨_, hzero, hcode⟩ := eq_formatC_iff.1 (rfl : op ++ 0#25 ++ code = _)
  rw [decodeFormatC, if_pos hzero, hcode, if_pos h]

theorem decodeFormatN_append (e : Instr) : decodeFormatN e (op ++ 0#28) = .event e :=
  if_pos (eq_formatN_iff.1 (rfl : op ++ 0#28 = _)).2

theorem decodeFormatF_append (inj : Bool) (lqi : Lqi) :
    decodeFormatF (op ++ 0#19 ++ BitVec.ofBool inj ++ lqi) = .event (.rxFrame inj lqi) := by
  obtain ⟨_, hzero, hinj, hlqi⟩ := eq_formatF_iff.1 (rfl : op ++ 0#19 ++ BitVec.ofBool inj ++ lqi = _)
  rw [decodeFormatF, if_pos hzero, hinj, hlqi]

theorem decodeFormatG_append (reg : BitVec 4) : decodeFormatG (op ++ reg ++ 0#24) = .event (.cfgWrite reg) := by
  obtain ⟨_, hreg, hzero⟩ := eq_formatG_iff.1 (rfl : op ++ reg ++ 0#24 = _)
  rw [decodeFormatG, if_pos hzero, hreg]

theorem decodeFormatS_append (handle : Handle) (tag : Tag) (txopt : TxOpt) (srcMode dstMode : AddrMode)
    (low : BitVec 10) :
    decodeFormatS (op ++ handle ++ tag.bits ++ txopt.bits ++ srcMode.bits ++ dstMode.bits ++ low) =
      .event (.submit handle tag txopt srcMode dstMode low) := by
  obtain ⟨_, hhandle, htag, htxopt, hsrc, hdst, hlow⟩ := eq_formatS_iff.1
    (rfl : op ++ handle ++ tag.bits ++ txopt.bits ++ srcMode.bits ++ dstMode.bits ++ low = _)
  simp only [decodeFormatS, hhandle, htag, htxopt, hsrc, hdst, hlow, Tag.ofBits_bits, TxOpt.ofBits_bits,
    AddrMode.ofBits_bits]

end Formats

/-- Settles O1: the opcode selects the format the event was encoded in, and that format reads its operands back. -/
theorem decodingAnEncodedEventGivesItBack : Obligations.DecodingAnEncodedEventGivesItBack := by
  intro i hlegal
  unfold decode
  cases i with
  | submit handle tag txopt srcMode dstMode low =>
    rw [OpcodeOfEncoding.submit]
    exact decodeFormatS_append ..
  | ccaConf code =>
    rw [OpcodeOfEncoding.ccaConf]
    exact decodeFormatC_append hlegal
  | trxConf code =>
    rw [OpcodeOfEncoding.trxConf]
    exact decodeFormatC_append hlegal
  | txConf code =>
    rw [OpcodeOfEncoding.txConf]
    exact decodeFormatC_append hlegal
  | rxFrame inj lqi =>
    rw [OpcodeOfEncoding.rxFrame]
    exact decodeFormatF_append inj lqi
  | energySample slot =>
    rw [OpcodeOfEncoding.energySample]
    exact decodeFormatC_append hlegal
  | ackwaitFire =>
    rw [OpcodeOfEncoding.ackwaitFire]
    exact decodeFormatN_append _
  | sceFire =>
    rw [OpcodeOfEncoding.sceFire]
    exact decodeFormatN_append _
  | hswaitFire =>
    rw [OpcodeOfEncoding.hswaitFire]
    exact decodeFormatN_append _
  | cfgWrite reg =>
    rw [OpcodeOfEncoding.cfgWrite]
    exact decodeFormatG_append reg

/-! ### Encoding a decoded word -/

section Formats

variable {op : BitVec 4} (hop : (slice w 28 4).toNat = op.toNat)

include hop

theorem encode_of_decodeFormatC {mk : BitVec 3 → Instr} (h : decodeFormatC mk w = .event i)
    (hword : ∀ code, encode (mk code) = op ++ 0#25 ++ code) : i.wellFormed = true ∧ encode i = w := by
  unfold decodeFormatC at h
  split at h
  · next hzero =>
    split at h
    · next hlegal =>
      cases h
      exact ⟨hlegal, (hword _).trans (eq_formatC_iff.2 ⟨BitVec.eq_of_toNat_eq hop, hzero, rfl⟩).symm⟩
    · cases h
  · cases h

theorem encode_of_decodeFormatN {e : Instr} (h : decodeFormatN e w = .event i) (hlegal : e.wellFormed = true)
    (hword : encode e = op ++ 0#28) : i.wellFormed = true ∧ encode i = w := by
  unfold decodeFormatN at h
  split at h
  · next hzero =>
    cases h
    exact ⟨hlegal, hword.trans (eq_formatN_iff.2 ⟨BitVec.eq_of_toNat_eq hop, hzero⟩).symm⟩
  · cases h

end Formats

/-- Settles O2: with its opcode and its zero bits known, the word is put together again from the operands read. -/
theorem encodingADecodedWordGivesItBack : Obligations.EncodingADecodedWordGivesItBack := by
  intro w i h
  unfold decode at h
  split at h
  · next hop =>
    cases h
    refine ⟨rfl, (eq_formatS_iff.2 ⟨BitVec.eq_of_toNat_eq hop, rfl, ?_, ?_, ?_, ?_, rfl⟩).symm⟩
    · exact (Tag.bits_ofBits _).symm
    · exact (TxOpt.bits_ofBits _).symm
    · exact (AddrMode.bits_ofBits _).symm
    · exact (AddrMode.bits_ofBits _).symm
  · next hop => exact encode_of_decodeFormatC (op := 0x2#4) hop h fun _ => rfl
  · next hop => exact encode_of_decodeFormatC (op := 0x3#4) hop h fun _ => rfl
  · next hop => exact encode_of_decodeFormatC (op := 0x4#4) hop h fun _ => rfl
  · next hop =>
    unfold decodeFormatF at h
    split at h
    · next hzero =>
      cases h
      exact ⟨rfl, (eq_formatF_iff.2 ⟨BitVec.eq_of_toNat_eq hop, hzero, rfl, rfl⟩).symm⟩
    · cases h
  · next hop => exact encode_of_decodeFormatC (op := 0x6#4) hop h fun _ => rfl
  · next hop => exact encode_of_decodeFormatN (op := 0x7#4) hop h rfl rfl
  · next hop => exact encode_of_decodeFormatN (op := 0x8#4) hop h rfl rfl
  · next hop => exact encode_of_decodeFormatN (op := 0x9#4) hop h rfl rfl
  · next hop =>
    unfold decodeFormatG at h
    split at h
    · next hzero =>
      cases h
      exact ⟨rfl, (eq_formatG_iff.2 ⟨BitVec.eq_of_toNat_eq hop, rfl, hzero⟩).symm⟩
    · cases h
  · cases h

/-! ### Words that do not decode (R105) -/

section Formats

variable {why : DecodeError}

theorem decodeFormatC_illegal {mk : BitVec 3 → Instr} (h : decodeFormatC mk w = .illegal why) :
    2 ^ 3 ≤ w.toNat % 2 ^ 28 ∨
      ((slice w 0 3).toNat = w.toNat % 2 ^ 28 ∧ (mk (slice w 0 3)).wellFormed = false) := by
  unfold decodeFormatC at h
  split at h
  · next hzero =>
    split at h
    · cases h
    · next hcode =>
      have hlow := (slice_eq_zero_iff w (by rfl)).1 hzero
      exact .inr ⟨by rw [slice_toNat]; omega, Bool.eq_false_iff.2 hcode⟩
  · next hset => exact .inl (Nat.not_lt.1 (hset ∘ (slice_eq_zero_iff w (by rfl)).2))

theorem decodeFormatN_illegal {e : Instr} (h : decodeFormatN e w = .illegal why) : w.toNat % 2 ^ 28 ≠ 0 := by
  unfold decodeFormatN at h
  split at h
  · cases h
  · next hset => exact fun hzero => hset ((slice_eq_zero_iff w (by rfl)).2 (Nat.lt_one_iff.2 hzero))

theorem decodeFormatF_illegal (h : decodeFormatF w = .illegal why) : 2 ^ 9 ≤ w.toNat % 2 ^ 28 := by
  unfold decodeFormatF at h
  split at h
  · cases h
  · next hset => exact Nat.not_lt.1 (hset ∘ (slice_eq_zero_iff w (by rfl)).2)

theorem decodeFormatG_illegal (h : decodeFormatG w = .illegal why) : w.toNat % 2 ^ 24 ≠ 0 := by
  unfold decodeFormatG at h
  split at h
  · cases h
  · next hset => exact fun hzero => hset (BitVec.eq_of_toNat_eq (by simpa [slice_toNat] using hzero))

/-- R105: opcode by opcode, what makes the format refuse the word makes it illegal. -/
theorem illegalWord_of_decode (h : decode w = .illegal why) : illegalWord w := by
  have hop : (slice w 28 4).toNat = w.toNat / 2 ^ 28 := by
    rw [slice_toNat]
    omega
  unfold illegalWord
  unfold decode at h
  rw [hop] at h
  split at h
  · cases h
  · rcases decodeFormatC_illegal h with hset | ⟨hcode, hillegal⟩
    · omega
    · have hge : ¬(slice w 0 3).toNat < 2 := of_decide_eq_false hillegal
      omega
  · rcases decodeFormatC_illegal h with hset | ⟨hcode, hillegal⟩
    · omega
    · have hge : ¬(slice w 0 3).toNat < 4 := of_decide_eq_false hillegal
      omega
  · rcases decodeFormatC_illegal h with hset | ⟨_, hillegal⟩
    · omega
    · cases hillegal
  · have hset := decodeFormatF_illegal h
    omega
  · rcases decodeFormatC_illegal h with hset | ⟨hcode, hillegal⟩
    · omega
    · have hge : ¬(slice w 0 3).toNat < 4 := of_decide_eq_false hillegal
      omega
  -- format N, the three timer events
  iterate 3
    have hset := decodeFormatN_illegal h
    omega
  · have hset := decodeFormatG_illegal h
    omega
  · have hreserved : w.toNat / 2 ^ 28 = 0 ∨ 0xB ≤ w.toNat / 2 ^ 28 := by
      simp only [imp_false] at *
      omega
    exact hreserved.imp_right .inl

end Formats

/-- Settles O3: a decoded word is legal (O6's lemma), and a word that does not decode is illegal. -/
theorem exactlyTheLegalWordsDecode : Obligations.ExactlyTheLegalWordsDecode := by
  intro w
  constructor
  · rintro ⟨i, h⟩
    exact not_illegalWord_of_decode h
  · intro hlegal
    cases h : decode w with
    | event i => exact ⟨i, rfl⟩
    | illegal why => exact absurd (illegalWord_of_decode h) hlegal

/-- Settles O4: each of the nine words is decoded. -/
theorem specEventWordsDecode : Obligations.SpecEventWordsDecode := by
  unfold Obligations.SpecEventWordsDecode
  decide

end Sys2Proof.Proofs.Encoding

/-! PROOFS. What a step does with what is presented (O5, O7, O9), and what holds after reset (O11, O21). -/

namespace Sys2Proof.Proofs.StepAndReset

open Sys2Proof.Machine Sys2Proof.Safety Sys2Proof.Proofs.Event Sys2Proof.Proofs.Invariance
open Sys2Proof.Proofs.Submission (exec_running)
open Sys2Proof.Proofs.Receive (trace_eq_emitted)
open Sys2Proof.Proofs.Channel (trxAcceptable_iff trxConfirmed_eq)

variable {s : State}

/-! ### One step (R7, R302, R310) -/

theorem step_of_event {ev : PortEvent} {rest : List PortEvent} {i : Instr} (hpending : s.pending = ev :: rest)
    (hdecode : decode ev.word = .event i) : step s = exec i (present ev rest s) := by
  simp only [step, hpending, hdecode]

theorem step_of_nil (hpending : s.pending = []) : step s = accept s s := by
  simp only [step, hpending]

/-- Settles O5: turning to the event is the record the statement writes out. -/
theorem stepRunsTheDecodedEvent : Obligations.StepRunsTheDecodedEvent :=
  fun _ _ _ _ hpending hdecode => step_of_event hpending hdecode

/-- Settles O9: a step with nothing presented accepts the state itself. -/
theorem blockWaitsWithoutAnEvent : Obligations.BlockWaitsWithoutAnEvent := by
  intro s hf hpending
  rw [step_of_nil hpending, accept_running hf]

/-! ### Illegal codes (R93, R105) -/

theorem ccaConfirmed_illegal {code : BitVec 3} (h : (Instr.ccaConf code).wellFormed = false) (s : State) :
    ccaConfirmed code s = badEvent (encode (.ccaConf code)) s := by
  have hcode : CcaResult.ofCode code = none := by
    revert code
    decide
  simp only [ccaConfirmed, hcode]

theorem trxConfirmed_illegal {code : BitVec 3} (h : (Instr.trxConf code).wellFormed = false) (s : State) :
    trxConfirmed code s = badEvent (encode (.trxConf code)) s := by
  have hcode : TrxConfirmation.ofCode code = none := by
    revert code
    decide
  simp only [trxConfirmed, hcode]

theorem energySampled_illegal {slot : BitVec 3} (h : (Instr.energySample slot).wellFormed = false) (s : State) :
    energySampled slot s = badEvent (encode (.energySample slot)) s := by
  have hslot : ¬slot.toNat < 4 := of_decide_eq_false h
  unfold energySampled
  split
  case h_5 => rfl
  all_goals omega

/-- Settles O7: three events have codes that R93 calls illegal, and each of them is then a bad event. -/
theorem illFormedEventActsAsItsIllegalWord : Obligations.IllFormedEventActsAsItsIllegalWord := by
  intro s i hf hillegal
  rw [exec_running hf]
  cases i with
  | ccaConf code => rw [effect, ccaConfirmed_illegal hillegal, badEvent, trace_eq_emitted]
  | trxConf code => rw [effect, trxConfirmed_illegal hillegal, badEvent, trace_eq_emitted]
  | energySample slot => rw [effect, energySampled_illegal hillegal, badEvent, trace_eq_emitted]
  | submit | txConf | rxFrame | ackwaitFire | sceFire | hswaitFire | cfgWrite => cases hillegal

/-! ### Reset (R67, R300, R304) -/

theorem invariants_resetWith (c : Config) : Invariants (State.resetWith c) := by
  have hqueue : QueueOk (State.resetWith c) :=
    ⟨Nat.zero_le _, fun hne => absurd rfl hne, fun _ _ => Nat.zero_le _, fun _ => (absurd · List.not_mem_nil)⟩
  exact invariants_idle ⟨⟨hqueue, rfl, rfl, rfl⟩, rfl⟩ rfl fun _ => rfl

/-- Settles O11: the reset signal leaves what the invariants read as `State.resetWith` does. -/
theorem invariantsHoldAtReset : Obligations.InvariantsHoldAtReset :=
  ⟨fun _ => invariants_resetWith _, fun c _ => invariants_resetWith c,
    fun s => ⟨rfl, invariants_congr (invariants_resetWith s.cfg) rfl, rfl⟩⟩

theorem ledgerOk_resetWith (c : Config) : LedgerOk (State.resetWith c) Ledger.reset := by
  constructor <;> simp [State.resetWith, Ledger.reset]

/-- R311: the answers to reset's own request. -/
theorem admissible_reset {code : BitVec 3} (h : Admissible Ledger.reset s (.trxConf code)) : code = 1#3 ∨ code = 3#3 := by
  obtain ⟨owed, rest, htrx, hanswer⟩ := h
  cases htrx
  exact hanswer.symm.imp_left And.right

/-- Settles O21: both answers are acceptable in `Idle`, where they do nothing. -/
theorem answeringResetLeavesTheBlockAtRest : Obligations.AnsweringResetLeavesTheBlockAtRest := by
  refine fun c code => ⟨ledgerOk_resetWith c, fun hadm => ⟨State.resetWith c, ?_, rfl, ?_⟩⟩
  · have hcode := admissible_reset hadm
    have hlegal : code < 4#3 := by rcases hcode with rfl | rfl <;> decide
    have hok := (trxAcceptable_iff .idle code).2 (.inr (.inl ⟨rfl, .inr hcode⟩))
    rw [exec_running rfl, effect, trxConfirmed_eq hlegal]
    exact congrArg _ (if_pos hok)
  · exact ⟨rfl, rfl, rfl, rfl, rfl, rfl, rfl, rfl, rfl, nofun⟩

end Sys2Proof.Proofs.StepAndReset

/-! PROOFS. What an RX_FRAME leaves alone (O42): some registers in every MAC state, and in `Sending` all but the outputs,
where moreover it asks nothing of the Arbiter and of Radio Control. -/

namespace Sys2Proof.Proofs.ReceiveFrame

open Sys2Proof.Machine Sys2Proof.Safety Sys2Proof.Proofs.Event Sys2Proof.Proofs.Receive
open Sys2Proof.Proofs.LastingPart (Lasting lasts_frameReceived identityIsWrittenOnlyByCfgWrite)
open Sys2Proof.Proofs.FatalEntry (frameReceived_fault)
open Sys2Proof.Proofs.AckRetry (ackReceived_of_unexpected)

/-! ### The registers no received frame writes -/

/-- The mailbox and the port (R110, R310), the model's counter, the awaited acknowledgment's duration (R40) and the energy
samples (R35). -/
def aside (s : State) : Mailbox × List PortEvent × Nat × Delay × Energy × Energy :=
  (s.mailbox, s.pending, s.free, s.ackw.dur, s.hs.e1, s.hs.e2)

section Procedures

variable (s : State)

@[simp] theorem aside_emit (a : Action) : aside (emit a s) = aside s := rfl
@[simp] theorem aside_emitted (acts : List Action) : aside (emitted acts s) = aside s := rfl
@[simp] theorem aside_trace (event : TraceEvent) : aside (trace event s) = aside s := rfl
@[simp] theorem aside_iffClear : aside (iffClear s) = aside s := rfl
@[simp] theorem aside_ackwCancel : aside (ackwCancel s) = aside s := rfl
@[simp] theorem aside_sceCancel : aside (sceCancel s) = aside s := rfl
@[simp] theorem aside_sceSchedule (action : SceAction) (delay : Delay) : aside (sceSchedule action delay s) = aside s := rfl
@[simp] theorem aside_recordRequester (h : Header) (m : Metadata) : aside (recordRequester h m s) = aside s := rfl
@[simp] theorem aside_enterSending (e : OutFrame) (inQueue : Bool) : aside (enterSending e inQueue s) = aside s := rfl

@[simp] theorem aside_arbCancel : aside (arbCancel s) = aside s := by
  obtain ⟨_, heq⟩ := arbCancel_writes s
  rw [heq]; rfl

@[simp] theorem aside_hswArm : aside (hswArm s) = aside s := by
  obtain ⟨_, heq⟩ := hswArm_writes s
  rw [heq]; rfl

@[simp] theorem aside_forceIdle : aside (forceIdle s) = aside s := by
  obtain ⟨_, heq⟩ := forceIdle_writes s
  rw [heq]; rfl

@[simp] theorem aside_enterIdle : aside (enterIdle s) = aside s := by
  obtain ⟨_, _, _, _, heq⟩ := enterIdle_writes s
  rw [heq]; rfl

@[simp] theorem aside_confirmHead (status : Status) : aside (confirmHead status s) = aside s := by
  obtain ⟨_, heq⟩ := confirmHead_writes s status
  rw [heq]; rfl

@[simp] theorem aside_removeHead : aside (removeHead s) = aside s := by
  obtain ⟨_, _, heq⟩ := removeHead_writes s
  rw [heq]; rfl

@[simp] theorem aside_prepareRetransmission : aside (prepareRetransmission s) = aside s := by
  rcases prepareRetransmission_cases s with ⟨_, heq⟩ | ⟨_, _, heq⟩ | ⟨_, _, heq⟩ <;> rw [heq] <;> rfl

@[simp] theorem aside_abandonCurrent : aside (abandonCurrent s) = aside s := by
  by_cases hwait : isHandshakeWait s.ms = true
  · rw [abandonCurrent_wait hwait]; rfl
  · cases hms : s.ms with
    | idle => rw [abandonCurrent_idle hms]
    | channelAccess => rw [abandonCurrent_channelAccess hms, aside_arbCancel]
    | sending => rw [abandonCurrent_sending hms]
    | ackPending => rw [abandonCurrent_ackPending hms, aside_prepareRetransmission]
    | cfePending | cfeAckPending | energyPending => simp [hms, isHandshakeWait] at hwait

theorem aside_ackReceived (h : Header) : aside (ackReceived h s) = aside s := by
  unfold ackReceived
  split
  · split
    · simp [ackMatched]
    · simp [retryOrGiveUp]
  · rfl

theorem aside_donorRfe (h : Header) (m : Metadata) : aside (donorRfe h m s) = aside s := by
  unfold donorRfe
  split
  · simp
  · rfl

/-- R233: `MS` and the handshake timer are written besides the context. -/
theorem aside_sensorFreeze (h : Header) (m : Metadata) : aside (sensorFreeze h m s) = aside s :=
  (aside_hswArm _).trans (aside_arbCancel (sceCancel s))

theorem aside_sensorRfe (h : Header) (m : Metadata) : aside (sensorRfe h m s) = aside s := by
  unfold sensorRfe
  cases s.ms with
  | idle | channelAccess | energyPending => exact aside_sensorFreeze s h m
  | sending | ackPending | cfePending | cfeAckPending => rfl

theorem aside_hsReact (h : Header) (m : Metadata) : aside (hsReact h m s) = aside s := by
  unfold hsReact
  cases m.tag with
  | rfe =>
    cases s.cfg.role with
    | energyDonor => exact aside_donorRfe s h m
    | sensor => exact aside_sensorRfe s h m
  | cfe => cases s.cfg.role <;> rfl
  | cfeAck =>
    dsimp only
    split <;> rfl
  | energy | data | ack | unused | untagged => rfl

theorem aside_reactToFrame (h : Header) (m : Metadata) : aside (reactToFrame h m s) = aside s := by
  unfold reactToFrame
  split
  · obtain ⟨_, heq⟩ := receivedWhileSending_writes s h m
    rw [heq]; rfl
  · split
    · split <;> simp [generateAck]
    · split
      · exact aside_hsReact s h m
      · rfl

theorem aside_dispatchFrame (lqi : Lqi) (f : Frame) :
    aside (dispatchFrame f.header f.metadata lqi f s) = aside s := by
  by_cases htype : f.header.ftype = .data ∨ f.header.ftype = .command
  · rw [dispatchFrame_of_data_or_command htype, aside_emitted, aside_reactToFrame]
  · unfold dispatchFrame
    split
    · exact aside_ackReceived s f.header
    · rfl
    · next hdata => exact absurd (.inl hdata) htype
    · next hcommand => exact absurd (.inr hcommand) htype
    · rfl

theorem aside_frameReceived (inj : Bool) (lqi : Lqi) : aside (frameReceived inj lqi s.mailbox.frame s) = aside s := by
  rcases frameReceived_cases inj lqi s with ⟨_, _, _, heq⟩ | ⟨_, _, _, heq⟩ | ⟨_, _, heq⟩ <;> rw [heq]
  · rfl
  · rfl
  · exact aside_dispatchFrame (emitted _ s) lqi _

end Procedures

/-! ### A frame received while `Sending` (R198, R220) -/

/-- The actions put no request to the collaborators: the environment's ledger stays as it is. -/
def AsksNothing (acts : List Action) : Prop := ∀ l : Ledger, acts.foldl Ledger.observe l = l

theorem AsksNothing.append {acts more : List Action} (h : AsksNothing acts) (hmore : AsksNothing more) :
    AsksNothing (acts ++ more) :=
  fun l => by rw [List.foldl_append, h l, hmore l]

theorem asksNothing_sniffs (f : Frame) (s : State) : AsksNothing (sniffs f s) := by
  intro l
  cases hpromisc : s.promisc <;> simp [sniffs, hpromisc, Ledger.observe]

theorem asksNothing_frameClosing (lqi : Lqi) (f : Frame) : AsksNothing (frameClosing lqi f) := by
  rcases Notable.frameClosing_cases lqi f with ⟨_, _, _, heq⟩ | ⟨_, heq | heq⟩ <;> rw [heq] <;> exact fun _ => rfl

variable {s : State}

theorem reactToFrame_asksNothing (hms : s.ms = .sending) (h : Header) (m : Metadata) :
    ∃ acts, AsksNothing acts ∧ reactToFrame h m s = emitted acts s := by
  refine ⟨_, fun l => ?_, reactToFrame_of_sending h m hms⟩
  cases ackOwed h s <;> cases isHandshake m.tag <;> rfl

theorem dispatchFrame_asksNothing (hms : s.ms = .sending) (lqi : Lqi) (f : Frame) :
    ∃ acts, AsksNothing acts ∧ dispatchFrame f.header f.metadata lqi f s = emitted acts s := by
  by_cases htype : f.header.ftype = .data ∨ f.header.ftype = .command
  · obtain ⟨acts, hacts, heq⟩ := reactToFrame_asksNothing hms f.header f.metadata
    refine ⟨acts ++ frameClosing lqi f, hacts.append (asksNothing_frameClosing lqi f), ?_⟩
    rw [dispatchFrame_of_data_or_command htype, heq, emitted_emitted]
  · unfold dispatchFrame
    split
    · exact ⟨_, fun _ => rfl, ackReceived_of_unexpected (by simp [hms])⟩
    · exact ⟨_, fun _ => rfl, trace_eq_emitted _ s⟩
    · next hdata => exact absurd (.inl hdata) htype
    · next hcommand => exact absurd (.inr hcommand) htype
    · exact ⟨[], fun _ => rfl, by simp [emitted]⟩

/-- R198, R220: in `Sending` a frame only adds outputs, and none of them is a request. -/
theorem frameReceived_asksNothing (hms : s.ms = .sending) (inj : Bool) (lqi : Lqi) :
    ∃ acts, AsksNothing acts ∧ frameReceived inj lqi s.mailbox.frame s = emitted acts s := by
  have hsniffs := asksNothing_sniffs s.mailbox.frame s
  rcases frameReceived_cases inj lqi s with ⟨_, drop, _, heq⟩ | ⟨_, _, step, heq⟩ | ⟨_, _, heq⟩
  · exact ⟨_, fun _ => rfl, heq⟩
  · exact ⟨_, hsniffs.append fun _ => rfl, heq⟩
  · obtain ⟨acts, hacts, hdispatch⟩ :=
      dispatchFrame_asksNothing (s := emitted (sniffs s.mailbox.frame s) s) hms lqi s.mailbox.frame
    exact ⟨_, hsniffs.append hacts, by rw [heq, hdispatch, emitted_emitted]⟩

/-- Settles O42: the parameters, the counter and the queue as `Lasts` says, the identity by O16, the registers of `aside`,
and in `Sending` outputs only. -/
theorem receivedFrameFrame : Obligations.ReceivedFrameFrame := by
  intro s t inj lqi hexec
  obtain ⟨hshort, hpan, hlo, hhi, hpromisc⟩ := identityIsWrittenOnlyByCfgWrite _ s t hexec nofun
  obtain ⟨_, rfl⟩ := exec_eq_next.1 hexec
  dsimp only [effect] at *
  have hlasts := lasts_frameReceived s inj lqi s.mailbox.frame
  have haside := aside_frameReceived s inj lqi
  simp only [aside, Prod.mk.injEq] at haside
  obtain ⟨hmailbox, hpending, hfree, hdur, he1, he2⟩ := haside
  refine ⟨hlasts.cfg_eq, hlasts.dsn_eq, frameReceived_fault s inj lqi _, hshort, hpan, hlo, hhi, hpromisc, hmailbox,
    hpending, hfree, hdur, he1, he2, ?_, fun hms => ?_⟩
  · exact hlasts.imp (congrArg Lasting.txq) (congrArg Lasting.txq)
  · obtain ⟨acts, _, heq⟩ := frameReceived_asksNothing hms inj lqi
    rw [heq]
    rfl

end Sys2Proof.Proofs.ReceiveFrame

/-! PROOFS. A consistent environment never faults (O20). What is outstanding is followed through an event's procedures as
the ledger with the outputs so far observed. Outside `Sending` the procedures keep `Receiving`, which does not read `MS`
and so holds wherever `MS` is on its way; it gives `LedgerOk` back in the state they end in, and what `LedgerOk` asks of
`Sending` when they end in a transmit-on request. In `Sending` only the two confirmations of Radio Control do more than
emit. -/

namespace Sys2Proof.Proofs.Environment

open Sys2Proof.Machine Sys2Proof.Safety Sys2Proof.Proofs.Event Sys2Proof.Proofs.ReceiveFrame
open Sys2Proof.Proofs.Invariance (invariants_congr ne_of_isHandshakeWait emitHs_ms)
open Sys2Proof.Proofs.Channel (trxConfirmed_eq)
open Sys2Proof.Proofs.Receive
open Sys2Proof.Proofs.FatalEntry (transmitted_fault effect_fault_cases)
open Sys2Proof.Proofs.History (withHistory effect_withHistory)
open Sys2Proof.Proofs.Notable (quiet_dispatchFrame quiet_hsReact)

variable {s t : State} {l : Ledger}

/-! ### The ledger in the middle of an event -/

/-- The ledger `l` with the outputs of `s` observed. -/
def ledgerAfter (l : Ledger) (s : State) : Ledger := s.out.foldl Ledger.observe l

theorem ledgerAfter_of_out {acts : List Action} (hout : t.out = s.out ++ acts) :
    ledgerAfter l t = acts.foldl Ledger.observe (ledgerAfter l s) := by
  rw [ledgerAfter, hout, List.foldl_append, ledgerAfter]

/-- What is outstanding fits the state. -/
def Fits (l : Ledger) (s : State) : Prop := LedgerOk s (ledgerAfter l s)

/-- No transmission is asked for or under way: only receive-on requests await an answer in time, and the Arbiter runs when
`ARB_RUN = 1`. -/
structure Receiving (l : Ledger) (s : State) : Prop where
  tx_off : (ledgerAfter l s).tx = false
  trx_rxOn : ∀ owed ∈ (ledgerAfter l s).trx, owed.late = false → owed.state = .rxOn
  arb_iff : (ledgerAfter l s).arb = .running ↔ s.arbRun = true

theorem ledgerOk_congr (h : LedgerOk s l) (hms : t.ms = s.ms) (hissued : t.txIssued = s.txIssued)
    (harb : t.arbRun = s.arbRun) : LedgerOk t l := by
  constructor <;> simp only [hms, hissued, harb]
  exacts [h.tx_iff, h.trx_due, h.trx_sending, h.trx_other, h.arb_iff]

theorem Fits.asksNothing {acts : List Action} (h : Fits l s) (hout : t.out = s.out ++ acts) (hacts : AsksNothing acts)
    (hms : t.ms = s.ms) (hissued : t.txIssued = s.txIssued) (harb : t.arbRun = s.arbRun) : Fits l t := by
  have hledger : ledgerAfter l t = ledgerAfter l s := (ledgerAfter_of_out hout).trans (hacts _)
  rw [Fits, hledger]
  exact ledgerOk_congr h hms hissued harb

theorem Fits.trace (h : Fits l s) (event : TraceEvent) : Fits l (trace event s) :=
  h.asksNothing (acts := [.trace event]) rfl (fun _ => rfl) rfl rfl rfl

/-- Outside `Sending` the two agree. -/
theorem Fits.receiving (h : Fits l s) (hms : s.ms ≠ .sending) : Receiving l s where
  tx_off := Bool.eq_false_iff.2 fun htx => hms (h.tx_iff.1 htx).1
  trx_rxOn := h.trx_other hms
  arb_iff := h.arb_iff

theorem Receiving.fits (h : Receiving l s) (hms : s.ms ≠ .sending) : Fits l s where
  tx_iff := by simp [h.tx_off, hms]
  trx_due := fun hsending => absurd hsending hms
  trx_sending := fun hsending => absurd hsending hms
  trx_other := fun _ => h.trx_rxOn
  arb_iff := h.arb_iff

namespace Receiving

/-! ### Emitting, while no transmission is under way -/

/-- R314: actions that at most start or cancel the Arbiter. -/
theorem setArbiter {acts : List Action} {duty : ArbiterDuty} (h : Receiving l s) (hout : t.out = s.out ++ acts)
    (hacts : acts.foldl Ledger.observe (ledgerAfter l s) = { ledgerAfter l s with arb := duty })
    (harb : duty = .running ↔ t.arbRun = true) : Receiving l t := by
  have hledger : ledgerAfter l t = { ledgerAfter l s with arb := duty } := (ledgerAfter_of_out hout).trans hacts
  constructor <;> rw [hledger]
  exacts [h.tx_off, h.trx_rxOn, harb]

theorem asksNothing {acts : List Action} (h : Receiving l s) (hout : t.out = s.out ++ acts) (hacts : AsksNothing acts)
    (harb : t.arbRun = s.arbRun) : Receiving l t :=
  h.setArbiter hout (hacts _) (harb ▸ h.arb_iff)

theorem congr (h : Receiving l s) (hout : t.out = s.out) (harb : t.arbRun = s.arbRun) : Receiving l t :=
  h.asksNothing (acts := []) (by rw [hout, List.append_nil]) (fun _ => rfl) harb

theorem emit (h : Receiving l s) {a : Action} (ha : AsksNothing [a]) : Receiving l (emit a s) :=
  h.asksNothing rfl ha rfl

theorem trace (h : Receiving l s) (event : TraceEvent) : Receiving l (trace event s) := h.emit fun _ => rfl

theorem iffClear (h : Receiving l s) : Receiving l (iffClear s) := h.congr rfl rfl

theorem hsClear (h : Receiving l s) : Receiving l (hsClear s) := h.congr rfl rfl

theorem sceCancel (h : Receiving l s) : Receiving l (sceCancel s) := h.congr rfl rfl

/-- R100: a receive-on request. -/
theorem requestRxOn (h : Receiving l s) (hout : t.out = s.out ++ [.trxRequest .rxOn]) (harb : t.arbRun = s.arbRun) :
    Receiving l t := by
  have hledger : ledgerAfter l t = (ledgerAfter l s).requested .rxOn := ledgerAfter_of_out hout
  constructor <;> simp only [hledger, harb, requested_tx, requested_arb, requested_rxOn_trx]
  · exact h.tx_off
  · intro owed hmem hprompt
    rcases List.mem_append.1 hmem with hmem | hmem
    · exact h.trx_rxOn owed hmem hprompt
    · rw [List.mem_singleton.1 hmem]
  · exact h.arb_iff

/-! ### The common procedures -/

theorem arbCancel (h : Receiving l s) : Receiving l (arbCancel s) := by
  rcases arbCancel_cases s with ⟨_, heq⟩ | ⟨_, heq⟩ <;> rw [heq]
  · exact h.setArbiter (duty := .cancelled) rfl rfl (by simp)
  · exact h

theorem checkQueue (h : Receiving l s) : Receiving l (checkQueue s) := by
  rcases checkQueue_cases s with ⟨_, _, _, _, heq⟩ | ⟨_, heq⟩ <;> rw [heq]
  · exact h.setArbiter (duty := .running) rfl rfl (by simp)
  · exact h

theorem enterIdle (h : Receiving l s) : Receiving l (enterIdle s) :=
  (h.requestRxOn (t := Machine.emit _ { s with ms := .idle }) rfl rfl).checkQueue

theorem forceIdle (h : Receiving l s) : Receiving l (forceIdle s) := by
  rcases forceIdle_cases s with ⟨_, heq⟩ | ⟨_, heq⟩ <;> rw [heq]
  · exact h
  · exact h.requestRxOn rfl rfl

theorem hswArm (h : Receiving l s) : Receiving l (hswArm s) := by
  obtain ⟨_, heq⟩ := hswArm_writes s
  rw [heq]
  exact h.congr rfl rfl

theorem confirmHead (h : Receiving l s) (status : Status) : Receiving l (confirmHead status s) := by
  rcases confirmHead_cases status s with ⟨_, heq⟩ | ⟨_, heq⟩ <;> rw [heq]
  · exact h.asksNothing rfl (fun _ => rfl) rfl
  · exact h

theorem removeHead (h : Receiving l s) : Receiving l (removeHead s) := by
  obtain ⟨_, _, heq⟩ := removeHead_writes s
  rw [heq]
  exact h.congr rfl rfl

theorem prepareRetransmission (h : Receiving l s) : Receiving l (prepareRetransmission s) := by
  rcases prepareRetransmission_cases s with ⟨_, heq⟩ | ⟨_, _, heq⟩ | ⟨_, _, heq⟩ <;> rw [heq] <;>
    exact h.asksNothing rfl (fun _ => rfl) rfl

theorem abandonCurrent (h : Receiving l s) : Receiving l (abandonCurrent s) := by
  by_cases hwait : isHandshakeWait s.ms = true
  · rw [abandonCurrent_wait hwait]
    exact h.asksNothing rfl (fun _ => by cases s.iff.valid <;> rfl) rfl
  · cases hms : s.ms with
    | idle => rw [abandonCurrent_idle hms]; exact h
    | channelAccess => rw [abandonCurrent_channelAccess hms]; exact h.arbCancel
    | sending => rw [abandonCurrent_sending hms]; exact h
    | ackPending => rw [abandonCurrent_ackPending hms]; exact h.prepareRetransmission
    | cfePending | cfeAckPending | energyPending => simp [hms, isHandshakeWait] at hwait

theorem retryOrGiveUp (h : Receiving l s) : Receiving l (retryOrGiveUp s) := h.prepareRetransmission.enterIdle

/-- R131: transmit-on is requested, which makes every earlier request late. -/
theorem enterSending (h : Receiving l s) (e : OutFrame) (inQueue : Bool) : Fits l (enterSending e inQueue s) := by
  have hledger : ledgerAfter l (Machine.enterSending e inQueue s) = (ledgerAfter l s).requested .txOn := by
    rw [enterSending_eq]
    exact ledgerAfter_of_out (acts := [.trxRequest .txOn, .trace (.txBegin e.tag e.seq)]) rfl
  rw [Fits, hledger, enterSending_eq]
  constructor
  · simp [h.tx_off]
  · simp
  · intro _ owed hmem hprompt
    rcases List.mem_append.1 hmem with hmem | hmem
    · simp [overtaken_late _ owed hmem] at hprompt
    · rw [List.mem_singleton.1 hmem]
  · exact fun hms => absurd rfl hms
  · simpa using h.arb_iff

/-! ### The reactions to a frame -/

theorem ackReceived (h : Receiving l s) (head : Header) : Receiving l (ackReceived head s) := by
  unfold Machine.ackReceived
  split
  · split
    · have hcancelled : Receiving l (ackwCancel s) := h.congr rfl rfl
      exact ((hcancelled.confirmHead .success).trace (.ackOk head.seq)).removeHead.iffClear.enterIdle
    · exact (h.trace _).retryOrGiveUp
  · exact h.trace _

theorem donorRfe (h : Receiving l s) (head : Header) (m : Metadata) : Receiving l (donorRfe head m s) := by
  unfold Machine.donorRfe
  split
  · have hscheduled : Receiving l (sceSchedule .emitCfe (groupDelay s.cfg m.group)
        (recordRequester head m (Machine.forceIdle (Machine.abandonCurrent (Machine.sceCancel s))))) :=
      h.sceCancel.abandonCurrent.forceIdle.congr rfl rfl
    exact hscheduled.trace _
  · exact h.trace _

theorem sensorFreeze (h : Receiving l s) (head : Header) (m : Metadata) : Receiving l (sensorFreeze head m s) := by
  have hfrozen : Receiving l
      (recordRequester head m { hswCancel (Machine.arbCancel (Machine.sceCancel s)) with ms := .energyPending }) :=
    h.sceCancel.arbCancel.congr rfl rfl
  exact hfrozen.hswArm.trace _

theorem sensorRfe (h : Receiving l s) (head : Header) (m : Metadata) : Receiving l (sensorRfe head m s) := by
  unfold Machine.sensorRfe
  cases s.ms with
  | idle | channelAccess | energyPending => exact h.sensorFreeze head m
  | sending | ackPending | cfePending | cfeAckPending => exact h.trace _

theorem hsReact (h : Receiving l s) (head : Header) (m : Metadata) : Receiving l (hsReact head m s) := by
  unfold Machine.hsReact
  cases m.tag with
  | rfe =>
    cases s.cfg.role with
    | energyDonor => exact h.donorRfe head m
    | sensor => exact h.sensorRfe head m
  | cfe =>
    cases s.cfg.role with
    | energyDonor => exact h.trace _
    | sensor => exact h.asksNothing (acts := [.trace .hsCfeRecorded]) rfl (fun _ => rfl) rfl
  | cfeAck =>
    dsimp only
    split
    · exact h.asksNothing (acts := [.trace (.hsCfeAck m.duration)]) rfl (fun _ => rfl) rfl
    · exact h.trace _
  | energy => exact h.asksNothing (acts := [.trace .hsEnergySeen]) rfl (fun _ => rfl) rfl
  | data | ack | unused | untagged => exact h.trace _

/-- R215. -/
theorem generateAck (h : Receiving l s) (seq : SeqNo) : Fits l (generateAck seq s) :=
  h.abandonCurrent.sceCancel.enterSending _ _

/-- R194: outside `Sending`, an owed acknowledgment is sent, or the frame is reacted to. -/
theorem reactToFrame (h : Receiving l s) (hms : s.ms ≠ .sending) (head : Header) (m : Metadata) :
    Fits l (reactToFrame head m s) := by
  cases howed : ackOwed head s with
  | true =>
    rw [reactToFrame_of_owed m hms howed]
    split
    · exact (h.trace _).generateAck head.seq
    · exact h.generateAck head.seq
  | false =>
    rw [reactToFrame_of_unowed m hms howed]
    split
    · exact (h.hsReact head m).fits (hms ∘ (quiet_hsReact s head m).ms)
    · exact h.fits hms

theorem dispatchFrame (h : Receiving l s) (hms : s.ms ≠ .sending) (lqi : Lqi) (f : Frame) :
    Fits l (dispatchFrame f.header f.metadata lqi f s) := by
  by_cases htype : f.header.ftype = .data ∨ f.header.ftype = .command
  · rw [dispatchFrame_of_data_or_command htype]
    exact (h.reactToFrame hms f.header f.metadata).asksNothing rfl (asksNothing_frameClosing lqi f) rfl rfl rfl
  · refine Receiving.fits ?_ (hms ∘ (quiet_dispatchFrame f.metadata f htype s).ms)
    unfold Machine.dispatchFrame
    split
    · exact h.ackReceived f.header
    · exact h.trace _
    · next hdata => exact absurd (.inl hdata) htype
    · next hcommand => exact absurd (.inr hcommand) htype
    · exact h

end Receiving

/-! ### `MS` where an event ends -/

theorem checkQueue_ms (h : s.ms ≠ .sending) : (checkQueue s).ms ≠ .sending := by
  rcases checkQueue_cases s with ⟨_, _, _, _, heq⟩ | ⟨_, heq⟩ <;> rw [heq]
  · exact nofun
  · exact h

theorem enterIdle_ms (s : State) : (enterIdle s).ms ≠ .sending := checkQueue_ms nofun

theorem Receiving.fits_enterIdle (h : Receiving l s) : Fits l (Machine.enterIdle s) := h.enterIdle.fits (enterIdle_ms s)

theorem Fits.checkQueue (h : Fits l s) : Fits l (Machine.checkQueue s) := by
  by_cases hms : s.ms = .sending
  · rwa [Machine.checkQueue, if_neg (by simp [hms])]
  · exact (h.receiving hms).checkQueue.fits (checkQueue_ms hms)

/-! ### From the ledger at an event to the ledger in its middle -/

theorem fits_iff_of_nil (hout : s.out = []) : Fits l s ↔ LedgerOk s l := by
  rw [Fits, ledgerAfter, hout, List.foldl_nil]

/-! ### CCA_CONF -/

/-- R93: a legal code names a result. -/
theorem exists_ccaResult {code : BitVec 3} (h : (Instr.ccaConf code).wellFormed = true) :
    ∃ result, CcaResult.ofCode code = some result := by
  refine Option.isSome_iff_exists.1 ?_
  revert code
  decide

/-- R314: with its result presented, the Arbiter owes none. -/
theorem arbiter_answered (h : LedgerOk s l) (code : BitVec 3) :
    LedgerOk { s with arbRun := false } (l.answered (.ccaConf code)) :=
  ⟨h.tx_iff, h.trx_due, h.trx_sending, h.trx_other, by simp [Ledger.answered]⟩

theorem fits_ccaConfirmed (hinv : Invariants s) (h : LedgerOk s l) (hout : s.out = []) {code : BitVec 3}
    (hlegal : (Instr.ccaConf code).wellFormed = true) :
    Fits (l.answered (.ccaConf code)) (ccaConfirmed code s) := by
  have hanswered := (fits_iff_of_nil (s := { s with arbRun := false }) hout).2 (arbiter_answered h code)
  obtain ⟨result, hresult⟩ := exists_ccaResult hlegal
  simp only [ccaConfirmed, hresult]
  split
  · next hms =>
    have hoff := hanswered.receiving (by simp [hms])
    cases result with
    | channelIdle => exact hoff.enterSending _ _
    | channelAccessFailure => exact ((hoff.confirmHead _).trace _).removeHead.fits_enterIdle
  · next hms =>
    have hoff : s.arbRun = false := Bool.eq_false_iff.2 (hms ∘ hinv.arbRun_iff.1)
    exact hanswered.asksNothing (acts := [.trace _]) rfl (fun _ => rfl) rfl rfl hoff

/-! ### TRX_CONF and TX_CONF -/

/-- R311, R312: what may answer the oldest request is acceptable where the block is. -/
theorem trxConfirmed_of_admissible (h : LedgerOk s l) {code : BitVec 3} (hadm : Admissible l s (.trxConf code)) :
    trxConfirmed code s = if s.ms = .sending then issueTransmit s else s := by
  obtain ⟨owed, rest, htrx, hanswer⟩ := hadm
  have howed : owed ∈ l.trx := by simp [htrx]
  have hacceptable : code < 4#3 ∧ (TrxConfirmation.ofCode code).any (trxAcceptable s.ms) = true := by
    by_cases hms : s.ms = .sending
    · have hcode : code = 3#3 ∨ code = 2#3 := hanswer.imp_right fun ⟨hprompt, hstate⟩ => by
        rw [hstate, h.trx_sending hms owed howed hprompt]
        rfl
      rw [hms]
      rcases hcode with rfl | rfl <;> decide
    · have hcode : code = 3#3 ∨ code = 1#3 := hanswer.imp_right fun ⟨hprompt, hstate⟩ => by
        rw [hstate, h.trx_other hms owed howed hprompt]
        rfl
      cases hcase : s.ms with
      | sending => exact absurd hcase hms
      | idle | channelAccess | ackPending | cfePending | cfeAckPending | energyPending =>
        rcases hcode with rfl | rfl <;> decide
  rw [trxConfirmed_eq hacceptable.1, if_pos hacceptable.2]

/-- R311: one request fewer is unanswered, which does no harm unless a transmission depends on it. -/
theorem ledgerOk_trxAnswered (h : LedgerOk s l) (code : BitVec 3) (hdue : s.ms = .sending → s.txIssued = true) :
    LedgerOk s (l.answered (.trxConf code)) where
  tx_iff := h.tx_iff
  trx_due := fun hms hissued => by simp [hdue hms] at hissued
  trx_sending := fun hms owed hmem => h.trx_sending hms owed (List.mem_of_mem_tail hmem)
  trx_other := fun hms owed hmem => h.trx_other hms owed (List.mem_of_mem_tail hmem)
  arb_iff := h.arb_iff

/-- R313: the transmit request takes the place of the answer that brought it about. -/
theorem ledgerOk_transmitIssued (h : LedgerOk s l) (hms : s.ms = .sending) (code : BitVec 3) :
    LedgerOk { s with txIssued := true } { l.answered (.trxConf code) with tx := true } where
  tx_iff := by simp [hms]
  trx_due := fun _ => nofun
  trx_sending := fun hms owed hmem => h.trx_sending hms owed (List.mem_of_mem_tail hmem)
  trx_other := fun hother => absurd hms hother
  arb_iff := h.arb_iff

theorem fits_trxConfirmed (h : LedgerOk s l) (hout : s.out = []) {code : BitVec 3}
    (hadm : Admissible l s (.trxConf code)) : Fits (l.answered (.trxConf code)) (trxConfirmed code s) := by
  rw [trxConfirmed_of_admissible h hadm]
  split
  · next hms =>
    unfold issueTransmit
    split
    · next hissued => exact (fits_iff_of_nil hout).2 (ledgerOk_trxAnswered h code fun _ => hissued)
    · have hledger : ledgerAfter (l.answered (.trxConf code)) { emit (.txRequest s.iff.frame) s with txIssued := true } =
          { l.answered (.trxConf code) with tx := true } := by
        simp [ledgerAfter, hout, Ledger.observe]
      rw [Fits, hledger]
      exact ledgerOk_congr (ledgerOk_transmitIssued h hms code) rfl rfl rfl
  · next hms => exact (fits_iff_of_nil hout).2 (ledgerOk_trxAnswered h code fun hsending => absurd hsending hms)

/-- R313: a TX_CONF ends the transmission, and what is unanswered is late from then on. -/
theorem receiving_of_txConf (h : LedgerOk s l) (hout : s.out = []) (code : BitVec 3) :
    Receiving (l.answered (.txConf code)) s := by
  have hledger : ledgerAfter (l.answered (.txConf code)) s = { l.overtaken with tx := false } := by
    rw [ledgerAfter, hout]
    rfl
  constructor <;> rw [hledger]
  · intro owed hmem hprompt
    simp [overtaken_late l owed hmem] at hprompt
  · exact h.arb_iff

theorem txConfirmed_of_admissible (h : LedgerOk s l) {code : BitVec 3} (hadm : Admissible l s (.txConf code)) :
    txConfirmed code s = transmitted s := by
  obtain ⟨htx, hcode⟩ := hadm
  obtain ⟨hms, hissued⟩ := h.tx_iff.1 htx
  rw [txConfirmed, if_pos ⟨hms, hissued, hcode⟩]

namespace Receiving

theorem awaitAck (h : Receiving l s) : Fits l (awaitAck s) :=
  (h.requestRxOn (t := Machine.awaitAck s) rfl rfl).fits nofun

/-- The queue part of R168 and R169. -/
theorem release (h : Receiving l s) :
    Receiving l (if s.iff.inQueue then s |> Machine.confirmHead .success |> Machine.removeHead else s) := by
  split
  · exact (h.confirmHead _).removeHead
  · exact h

/-- R129: a handshake wait is entered with a receive-on request. -/
theorem fits_enterWait (h : Receiving l s) (hms : s.ms ≠ .sending) :
    Fits l (Machine.emit (.trxRequest .rxOn) (Machine.hswArm s)) := by
  refine (h.hswArm.requestRxOn (t := Machine.emit _ _) rfl rfl).fits ?_
  obtain ⟨_, heq⟩ := hswArm_writes s
  rw [emit_ms, heq]
  exact hms

theorem awaitHandshake (h : Receiving l s) {next : MacState} (hnext : next ≠ .sending) :
    Fits l (awaitHandshake next s) := by
  unfold Machine.awaitHandshake
  split
  · refine fits_enterWait ?_ hnext
    exact (h.confirmHead .success).removeHead.congr rfl rfl
  · refine fits_enterWait ?_ hnext
    exact h.congr rfl rfl

theorem transmissionDone (h : Receiving l s) : Fits l (transmissionDone s) := by
  have hreleased := h.release
  unfold Machine.transmissionDone
  refine Receiving.fits_enterIdle ?_
  split
  · exact hreleased.hsClear.iffClear
  · exact hreleased.iffClear

theorem transmitted (h : Receiving l s) : Fits l (transmitted s) := by
  have htraced := h.trace (.txDone s.iff.tag s.iff.seq)
  unfold Machine.transmitted
  cases htag : s.iff.tag with
  | data =>
    rw [htag] at htraced
    dsimp only
    split
    · exact htraced.awaitAck
    · exact htraced.transmissionDone
  | rfe | cfe | cfeAck =>
    rw [htag] at htraced
    exact htraced.awaitHandshake nofun
  | energy | ack | unused | untagged =>
    rw [htag] at htraced
    exact htraced.transmissionDone

end Receiving

/-! ### RX_FRAME -/

theorem fits_frameReceived (h : Fits l s) (inj : Bool) (lqi : Lqi) :
    Fits l (frameReceived inj lqi s.mailbox.frame s) := by
  by_cases hms : s.ms = .sending
  · obtain ⟨acts, hacts, heq⟩ := frameReceived_asksNothing hms inj lqi
    rw [heq]
    exact h.asksNothing rfl hacts rfl rfl rfl
  · have hsniffs := asksNothing_sniffs s.mailbox.frame s
    rcases frameReceived_cases inj lqi s with ⟨_, _, _, heq⟩ | ⟨_, _, _, heq⟩ | ⟨_, _, heq⟩ <;> rw [heq]
    · exact h.trace _
    · exact h.asksNothing rfl (hsniffs.append fun _ => rfl) rfl rfl rfl
    · have hsniffed := (h.receiving hms).asksNothing (t := emitted (sniffs s.mailbox.frame s) s) rfl hsniffs rfl
      exact hsniffed.dispatchFrame hms lqi _

/-! ### ENERGY_SAMPLE and the timers -/

/-- R243, R249: a handshake wait ends in `Idle`. -/
theorem Receiving.fits_endWait (h : Receiving l s) :
    Fits l (Machine.enterIdle (Machine.iffClear (Machine.hsClear (Machine.sceCancel (hswCancel s))))) := by
  have hstopped : Receiving l (hswCancel s) := h.congr rfl rfl
  exact hstopped.sceCancel.hsClear.iffClear.fits_enterIdle

theorem fits_sampleTotal (h : Fits l s) : Fits l (sampleTotal s) := by
  unfold sampleTotal
  dsimp only
  split
  · next hms =>
    have hsampled := (h.receiving (by simp [hms])).trace (.hsSample 0#3 s.mailbox.energy)
    have hindicated := hsampled.emit (a := .energyIndication s.mailbox.energy) fun _ => rfl
    exact (hindicated.trace (.hsDone s.mailbox.energy)).fits_endWait
  · exact h.trace _

theorem fits_sampleSecond (h : Fits l s) : Fits l (sampleSecond s) := by
  unfold sampleSecond
  dsimp only
  split
  · split
    · exact h.asksNothing (acts := [.trace _, .trace .hsDivZero]) (List.append_assoc ..) (fun _ => rfl) rfl rfl rfl
    · exact h.asksNothing (acts := [.trace _]) rfl (fun _ => rfl) rfl rfl rfl
  · exact h.asksNothing (acts := [.trace _]) rfl (fun _ => rfl) rfl rfl rfl

theorem fits_energySampled (h : Fits l s) (slot : BitVec 3) : Fits l (energySampled slot s) := by
  unfold energySampled
  split
  · exact fits_sampleTotal h
  · exact h.asksNothing (acts := [.trace _]) rfl (fun _ => rfl) rfl rfl rfl
  · exact fits_sampleSecond h
  · exact h.trace _
  · exact h.trace _

theorem fits_retryOrGiveUp (h : Fits l s) (hms : s.ms ≠ .sending) : Fits l (retryOrGiveUp s) :=
  (h.receiving hms).prepareRetransmission.fits_enterIdle

/-- R246 emits traces only. -/
theorem Receiving.emitHs (h : Receiving l s) (action : SceAction) : Receiving l (emitHs action s) := by
  unfold Machine.emitHs
  dsimp only
  split
  · exact h.trace _
  · split
    · exact h.trace _
    · split <;> exact h.asksNothing (acts := [.trace _]) rfl (fun _ => rfl) rfl

theorem fits_sceFired (h : Fits l s) (hms : s.ms ≠ .sending) : Fits l (sceFired s) := by
  have hidle := (h.receiving hms).sceCancel.abandonCurrent.forceIdle
  refine Fits.checkQueue (hidle.emitHs s.sce.action |>.fits ?_)
  obtain ⟨_, heq⟩ := forceIdle_writes (abandonCurrent (sceCancel s))
  rw [emitHs_ms, heq]
  exact nofun

theorem fits_hsTimedOut (h : Fits l s) (hms : s.ms ≠ .sending) : Fits l (hsTimedOut s) :=
  ((h.receiving hms).trace .hsTimeout).fits_endWait

/-! ### SUBMIT and CFG_WRITE -/

theorem fits_submitted (h : Fits l s) (handle : Handle) (tag : Tag) (txopt : TxOpt) (srcMode dstMode : AddrMode)
    (low : BitVec 10) : Fits l (submitted handle tag txopt srcMode dstMode low s) := by
  unfold submitted
  split
  · exact h.asksNothing (acts := [.confirm handle _, .trace _]) (List.append_assoc ..) (fun _ => rfl) rfl rfl rfl
  · exact Fits.checkQueue (h.asksNothing (acts := [.trace (.enq handle)]) rfl (fun _ => rfl) rfl rfl rfl)

theorem fits_configured (h : Fits l s) (reg : BitVec 4) : Fits l (configured reg s) := by
  unfold configured
  split <;> exact h.asksNothing (acts := [.trace _]) rfl (fun _ => rfl) rfl rfl rfl

/-! ### Every event -/

/-- What is outstanding after an admissible event fits the state it leaves. -/
theorem fits_effect (hinv : Invariants s) (hok : LedgerOk s l) (hout : s.out = []) {i : Instr}
    (hlegal : i.wellFormed = true) (hadm : Admissible l s i) : Fits (l.answered i) (effect i s) := by
  have h : Fits l s := (fits_iff_of_nil hout).2 hok
  cases i with
  | submit handle tag txopt srcMode dstMode low =>
    dsimp only [effect]
    split
    · exact h.asksNothing (acts := []) (List.append_nil _).symm (fun _ => rfl) rfl rfl rfl
    · exact fits_submitted h ..
  | ccaConf code => exact fits_ccaConfirmed hinv hok hout hlegal
  | trxConf code => exact fits_trxConfirmed hok hout hadm
  | txConf code =>
    rw [effect, txConfirmed_of_admissible hok hadm]
    exact (receiving_of_txConf hok hout code).transmitted
  | rxFrame inj lqi => exact fits_frameReceived h inj lqi
  | energySample slot => exact fits_energySampled h slot
  | ackwaitFire =>
    have hms := hinv.ackw_iff.1 hadm
    rw [effect, if_pos (hinv.ackw_iff.2 hms)]
    exact fits_retryOrGiveUp h (by simp [hms])
  | sceFire =>
    obtain ⟨hpending, hms⟩ := hadm
    rw [effect, if_pos hpending, if_neg (by simp [isHeld, hms])]
    exact fits_sceFired h hms
  | hswaitFire =>
    have harmed : s.hsw.armed = true := hadm
    obtain ⟨_, _, hms, _⟩ := ne_of_isHandshakeWait (hinv.hsw_wait harmed)
    rw [effect, if_pos harmed]
    exact fits_hsTimedOut h hms
  | cfgWrite reg => exact fits_configured h reg

/-- R273: an admissible confirmation is not fatal, and no other event can be. -/
theorem fault_effect (hok : LedgerOk s l) {i : Instr} (hadm : Admissible l s i) : (effect i s).fault = s.fault := by
  cases i with
  | trxConf code =>
    rw [effect, trxConfirmed_of_admissible hok hadm]
    unfold issueTransmit
    split
    · split <;> rfl
    · rfl
  | txConf code =>
    rw [effect, txConfirmed_of_admissible hok hadm]
    exact transmitted_fault s
  | submit | ccaConf | rxFrame | energySample | ackwaitFire | sceFire | hswaitFire | cfgWrite =>
    rcases effect_fault_cases _ s with hkept | ⟨_, ⟨heq, _⟩ | ⟨heq, _⟩⟩
    · exact hkept
    · cases heq
    · cases heq

/-- Settles O20: the event's own outputs are those it emits from an empty list (O13), and `fits_effect` follows the ledger
through them. -/
theorem consistentEnvironmentNeverFaults : Obligations.ConsistentEnvironmentNeverFaults := by
  intro s t l i new hf hinv hok hlegal hadm hexec hout
  obtain ⟨_, rfl⟩ := exec_eq_next.1 hexec
  refine ⟨(fault_effect hok hadm).trans hf, ?_⟩
  have hsplit : s = withHistory s.out { s with out := [] } := by simp [withHistory]
  have heffect : effect i s = withHistory s.out (effect i { s with out := [] }) := by
    conv_lhs => rw [hsplit]
    exact effect_withHistory _ _ i
  have hempty : Admissible l { s with out := [] } i := by cases i <;> exact hadm
  have hfits := fits_effect (s := { s with out := [] }) (invariants_congr hinv rfl) (ledgerOk_congr hok rfl rfl rfl) rfl
    hlegal hempty
  rw [heffect] at hout ⊢
  rw [← List.append_cancel_left hout]
  exact ledgerOk_congr hfits rfl rfl rfl

end Sys2Proof.Proofs.Environment
